-- ==== Sys2Proof/Word.lean ====
section
/-! DEFINITION. The word types of the machine (00_scope.md rules R6, R9): every register and memory content is an
unsigned bit pattern of a stated width. -/

namespace Sys2Proof

/-- `u8` of rule R9: the contents of an 8-bit register or of one location of the bus. -/
abbrev Byte := BitVec 8

/-- `u16` of rule R9: a bus address, and the contents of SP, PC and of a register pair. -/
abbrev Addr := BitVec 16

end Sys2Proof
end

