-- ==== Sys2Proof/Config.lean ====
section
/-! DEFINITION. What an implementation fixes (00_scope.md rule R7): the parameters with their defaults, and the values
the spec leaves free. -/

namespace Sys2Proof

/-- The two Boolean parameters of rule R7 that decide behaviour at run time. They stand in State as plain data, so that
a statement about every state holds for every setting (log 5); no step changes them. -/
structure Params where
  /-- `HALT_BUG` (decision D9): whether the HALT-bug arm of rule R304 exists. -/
  haltBug : Bool
  /-- `PPU_ACCESS_RESTRICT` (decision D25): whether rule R88 closes VRAM and OAM to the CPU. -/
  ppuAccessRestrict : Bool
  deriving DecidableEq, Repr

/-- The five registers of the MBC3 clock (20_memory.md rule R99): S, M, H, DL, DH. -/
structure RtcRegs where
  s : Byte
  m : Byte
  h : Byte
  dl : Byte
  dh : Byte
  deriving DecidableEq, Repr, Inhabited

namespace Config

/-- The defaults of rule R7: `HALT_BUG` true, `PPU_ACCESS_RESTRICT` false. DESIGN CHOICE (log 5). -/
def params : Params := { haltBug := true, ppuAccessRestrict := false }

/-- `IoExternalRead` of rules R7 and R84: the byte a read of an out-of-scope I/O register (joypad, serial, APU) returns.
FREE VALUE, no body: the first argument is State's counter `draws`, the second the address (log 7). -/
opaque ioExternalRead : Nat → Addr → Byte

/-- `RTC_TICK` of rules R7 and R99: how the live MBC3 clock has advanced by the end of a step. FREE VALUE, no body: the
first argument is State's counter `draws` (log 9). -/
opaque rtcTick : Nat → RtcRegs → RtcRegs

/-- The entry point, rules R25 and R421. -/
def entryPoint : Addr := 0x0100

/-- What an entry that a store does not list reads as, for every memory of the machine and every width: a convention of
the form of a store, not its contents at power-on, which are any value (`State.construct`). In `State.reset`, which lists
nothing, it is what RAM reads as: DESIGN CHOICE zero (log 3); a ROM byte that the image does not list reads the same
(log 4), and rule R423 gives the framebuffer zeros. -/
def fill (w : Nat) : BitVec w := 0#w

end Config

end Sys2Proof
end

