-- ==== Sys2Proof/WellFormed.lean ====
section
/-! DEFINITION. Which terms of Instr are instructions. The operand types admit exactly the operands the encodings admit
(rules R133 to R137), so one check is left. -/

namespace Sys2Proof

/-- A whole instruction: every row but PREFIX CB, which "is not an instruction of its own" (rule R303, log 12). -/
def Instr.wellFormed : Instr → Bool
  | .prefixCb _ => false
  | _ => true

end Sys2Proof
end

