-- ==== Sys2Proof/Decode.lean ====
section
/-! DEFINITION. Decoding and encoding (30_encoding.md). The decoder follows the field tables of rules R131 to R142; it
is total, and the only thing it refuses is a byte list that stops before the instruction does. The encoder is written
from the opcode columns of the same tables. -/

namespace Sys2Proof

/-- `hi ## lo` of rule R8. -/
def joinBytes (hi lo : Byte) : Addr := hi ++ lo

/-- `v[7:0]` of rule R11. -/
def loByte (v : Addr) : Byte := v.extractLsb' 0 8

/-- `v[15:8]` of rule R11. -/
def hiByte (v : Addr) : Byte := v.extractLsb' 8 8

/-- `sext_16(e)` of rule R9. -/
def sext16 (e : Byte) : Addr := e.signExtend 16

/-! ### Fields and index tables -/

/-- Fields of an opcode byte (rules R131, R132): `x = op[7:6]`. -/
def fieldX (op : Byte) : Nat := op.toNat / 64

/-- `y = op[5:3]` of rules R131, R132. -/
def fieldY (op : Byte) : Nat := op.toNat / 8 % 8

/-- `z = op[2:0]` of rules R131, R132. -/
def fieldZ (op : Byte) : Nat := op.toNat % 8

/-- `y` as the bit number b of a CB opcode (rule R132), and as the RST index (rule R140). -/
def fieldBit (op : Byte) : Fin 8 := ⟨op.toNat / 8 % 8, Nat.mod_lt _ (by decide)⟩

/-- The table `r8[i]` of rule R133. -/
def r8Index : Nat → R8
  | 0 => .b
  | 1 => .c
  | 2 => .d
  | 3 => .e
  | 4 => .h
  | 5 => .l
  | 6 => .indHL
  | _ => .a

/-- The table `r16[i]` of rule R134. -/
def r16Index : Nat → R16
  | 0 => .bc
  | 1 => .de
  | 2 => .hl
  | _ => .sp

/-- The table `r16stk[i]` of rule R135. -/
def r16StkIndex : Nat → R16Stk
  | 0 => .bc
  | 1 => .de
  | 2 => .hl
  | _ => .af

/-- The table `r16mem[i]` of rule R135. -/
def r16MemIndex : Nat → R16Mem
  | 0 => .bc
  | 1 => .de
  | 2 => .hlInc
  | _ => .hlDec

/-- The table `cc[i]` of rule R136. -/
def ccIndex : Nat → Cond
  | 0 => .nz
  | 1 => .z
  | 2 => .nc
  | _ => .c

/-- The table `alu[i]` of rule R136. -/
def aluIndex : Nat → AluOp
  | 0 => .add
  | 1 => .adc
  | 2 => .sub
  | 3 => .sbc
  | 4 => .and
  | 5 => .xor
  | 6 => .or
  | _ => .cp

/-- The table `rot[i]` of rule R136. -/
def rotIndex : Nat → RotOp
  | 0 => .rlc
  | 1 => .rrc
  | 2 => .rl
  | 3 => .rr
  | 4 => .sla
  | 5 => .sra
  | 6 => .swap
  | _ => .srl

/-! ### The rows, by family: which constructor stands in which place of the opcode map -/

namespace Row

/-- The x = 1 block of rule R139: `LD r8[y],r8[z]`, where `(HL),(HL)` is HALT. -/
def ld : R8 → R8 → Instr
  | .b, .b => .ld_B_B
  | .b, .c => .ld_B_C
  | .b, .d => .ld_B_D
  | .b, .e => .ld_B_E
  | .b, .h => .ld_B_H
  | .b, .l => .ld_B_L
  | .b, .indHL => .ld_B_iHL
  | .b, .a => .ld_B_A
  | .c, .b => .ld_C_B
  | .c, .c => .ld_C_C
  | .c, .d => .ld_C_D
  | .c, .e => .ld_C_E
  | .c, .h => .ld_C_H
  | .c, .l => .ld_C_L
  | .c, .indHL => .ld_C_iHL
  | .c, .a => .ld_C_A
  | .d, .b => .ld_D_B
  | .d, .c => .ld_D_C
  | .d, .d => .ld_D_D
  | .d, .e => .ld_D_E
  | .d, .h => .ld_D_H
  | .d, .l => .ld_D_L
  | .d, .indHL => .ld_D_iHL
  | .d, .a => .ld_D_A
  | .e, .b => .ld_E_B
  | .e, .c => .ld_E_C
  | .e, .d => .ld_E_D
  | .e, .e => .ld_E_E
  | .e, .h => .ld_E_H
  | .e, .l => .ld_E_L
  | .e, .indHL => .ld_E_iHL
  | .e, .a => .ld_E_A
  | .h, .b => .ld_H_B
  | .h, .c => .ld_H_C
  | .h, .d => .ld_H_D
  | .h, .e => .ld_H_E
  | .h, .h => .ld_H_H
  | .h, .l => .ld_H_L
  | .h, .indHL => .ld_H_iHL
  | .h, .a => .ld_H_A
  | .l, .b => .ld_L_B
  | .l, .c => .ld_L_C
  | .l, .d => .ld_L_D
  | .l, .e => .ld_L_E
  | .l, .h => .ld_L_H
  | .l, .l => .ld_L_L
  | .l, .indHL => .ld_L_iHL
  | .l, .a => .ld_L_A
  | .indHL, .b => .ld_iHL_B
  | .indHL, .c => .ld_iHL_C
  | .indHL, .d => .ld_iHL_D
  | .indHL, .e => .ld_iHL_E
  | .indHL, .h => .ld_iHL_H
  | .indHL, .l => .ld_iHL_L
  | .indHL, .indHL => .halt
  | .indHL, .a => .ld_iHL_A
  | .a, .b => .ld_A_B
  | .a, .c => .ld_A_C
  | .a, .d => .ld_A_D
  | .a, .e => .ld_A_E
  | .a, .h => .ld_A_H
  | .a, .l => .ld_A_L
  | .a, .indHL => .ld_A_iHL
  | .a, .a => .ld_A_A

/-- `LD r8[y],n8` (rule R138, z = 6). -/
def ldImm : R8 → Byte → Instr
  | .b, n => .ld_B_n8 n
  | .c, n => .ld_C_n8 n
  | .d, n => .ld_D_n8 n
  | .e, n => .ld_E_n8 n
  | .h, n => .ld_H_n8 n
  | .l, n => .ld_L_n8 n
  | .indHL, n => .ld_iHL_n8 n
  | .a, n => .ld_A_n8 n

/-- The x = 2 block of rule R139: `alu[y] A,r8[z]`. -/
def alu : AluOp → R8 → Instr
  | .add, .b => .add_A_B
  | .add, .c => .add_A_C
  | .add, .d => .add_A_D
  | .add, .e => .add_A_E
  | .add, .h => .add_A_H
  | .add, .l => .add_A_L
  | .add, .indHL => .add_A_iHL
  | .add, .a => .add_A_A
  | .adc, .b => .adc_A_B
  | .adc, .c => .adc_A_C
  | .adc, .d => .adc_A_D
  | .adc, .e => .adc_A_E
  | .adc, .h => .adc_A_H
  | .adc, .l => .adc_A_L
  | .adc, .indHL => .adc_A_iHL
  | .adc, .a => .adc_A_A
  | .sub, .b => .sub_A_B
  | .sub, .c => .sub_A_C
  | .sub, .d => .sub_A_D
  | .sub, .e => .sub_A_E
  | .sub, .h => .sub_A_H
  | .sub, .l => .sub_A_L
  | .sub, .indHL => .sub_A_iHL
  | .sub, .a => .sub_A_A
  | .sbc, .b => .sbc_A_B
  | .sbc, .c => .sbc_A_C
  | .sbc, .d => .sbc_A_D
  | .sbc, .e => .sbc_A_E
  | .sbc, .h => .sbc_A_H
  | .sbc, .l => .sbc_A_L
  | .sbc, .indHL => .sbc_A_iHL
  | .sbc, .a => .sbc_A_A
  | .and, .b => .and_A_B
  | .and, .c => .and_A_C
  | .and, .d => .and_A_D
  | .and, .e => .and_A_E
  | .and, .h => .and_A_H
  | .and, .l => .and_A_L
  | .and, .indHL => .and_A_iHL
  | .and, .a => .and_A_A
  | .xor, .b => .xor_A_B
  | .xor, .c => .xor_A_C
  | .xor, .d => .xor_A_D
  | .xor, .e => .xor_A_E
  | .xor, .h => .xor_A_H
  | .xor, .l => .xor_A_L
  | .xor, .indHL => .xor_A_iHL
  | .xor, .a => .xor_A_A
  | .or, .b => .or_A_B
  | .or, .c => .or_A_C
  | .or, .d => .or_A_D
  | .or, .e => .or_A_E
  | .or, .h => .or_A_H
  | .or, .l => .or_A_L
  | .or, .indHL => .or_A_iHL
  | .or, .a => .or_A_A
  | .cp, .b => .cp_A_B
  | .cp, .c => .cp_A_C
  | .cp, .d => .cp_A_D
  | .cp, .e => .cp_A_E
  | .cp, .h => .cp_A_H
  | .cp, .l => .cp_A_L
  | .cp, .indHL => .cp_A_iHL
  | .cp, .a => .cp_A_A

/-- `alu[y] A,n8` (rule R140, z = 6). -/
def aluImm : AluOp → Byte → Instr
  | .add, n => .add_A_n8 n
  | .adc, n => .adc_A_n8 n
  | .sub, n => .sub_A_n8 n
  | .sbc, n => .sbc_A_n8 n
  | .and, n => .and_A_n8 n
  | .xor, n => .xor_A_n8 n
  | .or, n => .or_A_n8 n
  | .cp, n => .cp_A_n8 n

/-- `INC r8[y]` (rule R138, z = 4). -/
def inc : R8 → Instr
  | .b => .inc_B
  | .c => .inc_C
  | .d => .inc_D
  | .e => .inc_E
  | .h => .inc_H
  | .l => .inc_L
  | .indHL => .inc_iHL
  | .a => .inc_A

/-- `DEC r8[y]` (rule R138, z = 5). -/
def dec : R8 → Instr
  | .b => .dec_B
  | .c => .dec_C
  | .d => .dec_D
  | .e => .dec_E
  | .h => .dec_H
  | .l => .dec_L
  | .indHL => .dec_iHL
  | .a => .dec_A

/-- `LD r16[p],n16` (rule R138, z = 1, q = 0). -/
def ldPair : R16 → Addr → Instr
  | .bc, n => .ld_BC_n16 n
  | .de, n => .ld_DE_n16 n
  | .hl, n => .ld_HL_n16 n
  | .sp, n => .ld_SP_n16 n

/-- `ADD HL,r16[p]` (rule R138, z = 1, q = 1). -/
def addHl : R16 → Instr
  | .bc => .add_HL_BC
  | .de => .add_HL_DE
  | .hl => .add_HL_HL
  | .sp => .add_HL_SP

/-- `INC r16[p]` (rule R138, z = 3, q = 0). -/
def incPair : R16 → Instr
  | .bc => .inc_BC
  | .de => .inc_DE
  | .hl => .inc_HL
  | .sp => .inc_SP

/-- `DEC r16[p]` (rule R138, z = 3, q = 1). -/
def decPair : R16 → Instr
  | .bc => .dec_BC
  | .de => .dec_DE
  | .hl => .dec_HL
  | .sp => .dec_SP

/-- `LD (r16mem[p]),A` (rule R138, z = 2, q = 0). -/
def storeMem : R16Mem → Instr
  | .bc => .ld_iBC_A
  | .de => .ld_iDE_A
  | .hlInc => .ld_iHLinc_A
  | .hlDec => .ld_iHLdec_A

/-- `LD A,(r16mem[p])` (rule R138, z = 2, q = 1). -/
def loadMem : R16Mem → Instr
  | .bc => .ld_A_iBC
  | .de => .ld_A_iDE
  | .hlInc => .ld_A_iHLinc
  | .hlDec => .ld_A_iHLdec

/-- `PUSH r16stk[p]` (rule R140, z = 5, q = 0). -/
def push : R16Stk → Instr
  | .bc => .push_BC
  | .de => .push_DE
  | .hl => .push_HL
  | .af => .push_AF

/-- `POP r16stk[p]` (rule R140, z = 1, q = 0). -/
def pop : R16Stk → Instr
  | .bc => .pop_BC
  | .de => .pop_DE
  | .hl => .pop_HL
  | .af => .pop_AF

/-- `JR cc,e8` (rule R138, z = 0, y = 4..7). -/
def jrCc : Cond → Byte → Instr
  | .nz, e => .jr_NZ_e8 e
  | .z, e => .jr_Z_e8 e
  | .nc, e => .jr_NC_e8 e
  | .c, e => .jr_C_e8 e

/-- `JP cc,a16` (rule R140, z = 2). -/
def jpCc : Cond → Addr → Instr
  | .nz, a => .jp_NZ_a16 a
  | .z, a => .jp_Z_a16 a
  | .nc, a => .jp_NC_a16 a
  | .c, a => .jp_C_a16 a

/-- `CALL cc,a16` (rule R140, z = 4). -/
def callCc : Cond → Addr → Instr
  | .nz, a => .call_NZ_a16 a
  | .z, a => .call_Z_a16 a
  | .nc, a => .call_NC_a16 a
  | .c, a => .call_C_a16 a

/-- `RET cc` (rule R140, z = 0). -/
def retCc : Cond → Instr
  | .nz => .ret_NZ
  | .z => .ret_Z
  | .nc => .ret_NC
  | .c => .ret_C

/-- `RST y*8` (rule R140, z = 7). -/
def rst : Fin 8 → Instr
  | 0 => .rst_00
  | 1 => .rst_08
  | 2 => .rst_10
  | 3 => .rst_18
  | 4 => .rst_20
  | 5 => .rst_28
  | 6 => .rst_30
  | 7 => .rst_38

/-- The x = 0 block of rule R142: `rot[y] r8[z]`. -/
def rot : RotOp → R8 → Instr
  | .rlc, .b => .rlc_B
  | .rlc, .c => .rlc_C
  | .rlc, .d => .rlc_D
  | .rlc, .e => .rlc_E
  | .rlc, .h => .rlc_H
  | .rlc, .l => .rlc_L
  | .rlc, .indHL => .rlc_iHL
  | .rlc, .a => .rlc_A
  | .rrc, .b => .rrc_B
  | .rrc, .c => .rrc_C
  | .rrc, .d => .rrc_D
  | .rrc, .e => .rrc_E
  | .rrc, .h => .rrc_H
  | .rrc, .l => .rrc_L
  | .rrc, .indHL => .rrc_iHL
  | .rrc, .a => .rrc_A
  | .rl, .b => .rl_B
  | .rl, .c => .rl_C
  | .rl, .d => .rl_D
  | .rl, .e => .rl_E
  | .rl, .h => .rl_H
  | .rl, .l => .rl_L
  | .rl, .indHL => .rl_iHL
  | .rl, .a => .rl_A
  | .rr, .b => .rr_B
  | .rr, .c => .rr_C
  | .rr, .d => .rr_D
  | .rr, .e => .rr_E
  | .rr, .h => .rr_H
  | .rr, .l => .rr_L
  | .rr, .indHL => .rr_iHL
  | .rr, .a => .rr_A
  | .sla, .b => .sla_B
  | .sla, .c => .sla_C
  | .sla, .d => .sla_D
  | .sla, .e => .sla_E
  | .sla, .h => .sla_H
  | .sla, .l => .sla_L
  | .sla, .indHL => .sla_iHL
  | .sla, .a => .sla_A
  | .sra, .b => .sra_B
  | .sra, .c => .sra_C
  | .sra, .d => .sra_D
  | .sra, .e => .sra_E
  | .sra, .h => .sra_H
  | .sra, .l => .sra_L
  | .sra, .indHL => .sra_iHL
  | .sra, .a => .sra_A
  | .swap, .b => .swap_B
  | .swap, .c => .swap_C
  | .swap, .d => .swap_D
  | .swap, .e => .swap_E
  | .swap, .h => .swap_H
  | .swap, .l => .swap_L
  | .swap, .indHL => .swap_iHL
  | .swap, .a => .swap_A
  | .srl, .b => .srl_B
  | .srl, .c => .srl_C
  | .srl, .d => .srl_D
  | .srl, .e => .srl_E
  | .srl, .h => .srl_H
  | .srl, .l => .srl_L
  | .srl, .indHL => .srl_iHL
  | .srl, .a => .srl_A

/-- The x = 1 block of rule R142: `BIT y,r8[z]`. -/
def bit : Fin 8 → R8 → Instr
  | 0, .b => .bit_0_B
  | 0, .c => .bit_0_C
  | 0, .d => .bit_0_D
  | 0, .e => .bit_0_E
  | 0, .h => .bit_0_H
  | 0, .l => .bit_0_L
  | 0, .indHL => .bit_0_iHL
  | 0, .a => .bit_0_A
  | 1, .b => .bit_1_B
  | 1, .c => .bit_1_C
  | 1, .d => .bit_1_D
  | 1, .e => .bit_1_E
  | 1, .h => .bit_1_H
  | 1, .l => .bit_1_L
  | 1, .indHL => .bit_1_iHL
  | 1, .a => .bit_1_A
  | 2, .b => .bit_2_B
  | 2, .c => .bit_2_C
  | 2, .d => .bit_2_D
  | 2, .e => .bit_2_E
  | 2, .h => .bit_2_H
  | 2, .l => .bit_2_L
  | 2, .indHL => .bit_2_iHL
  | 2, .a => .bit_2_A
  | 3, .b => .bit_3_B
  | 3, .c => .bit_3_C
  | 3, .d => .bit_3_D
  | 3, .e => .bit_3_E
  | 3, .h => .bit_3_H
  | 3, .l => .bit_3_L
  | 3, .indHL => .bit_3_iHL
  | 3, .a => .bit_3_A
  | 4, .b => .bit_4_B
  | 4, .c => .bit_4_C
  | 4, .d => .bit_4_D
  | 4, .e => .bit_4_E
  | 4, .h => .bit_4_H
  | 4, .l => .bit_4_L
  | 4, .indHL => .bit_4_iHL
  | 4, .a => .bit_4_A
  | 5, .b => .bit_5_B
  | 5, .c => .bit_5_C
  | 5, .d => .bit_5_D
  | 5, .e => .bit_5_E
  | 5, .h => .bit_5_H
  | 5, .l => .bit_5_L
  | 5, .indHL => .bit_5_iHL
  | 5, .a => .bit_5_A
  | 6, .b => .bit_6_B
  | 6, .c => .bit_6_C
  | 6, .d => .bit_6_D
  | 6, .e => .bit_6_E
  | 6, .h => .bit_6_H
  | 6, .l => .bit_6_L
  | 6, .indHL => .bit_6_iHL
  | 6, .a => .bit_6_A
  | 7, .b => .bit_7_B
  | 7, .c => .bit_7_C
  | 7, .d => .bit_7_D
  | 7, .e => .bit_7_E
  | 7, .h => .bit_7_H
  | 7, .l => .bit_7_L
  | 7, .indHL => .bit_7_iHL
  | 7, .a => .bit_7_A

/-- The x = 2 block of rule R142: `RES y,r8[z]`. -/
def res : Fin 8 → R8 → Instr
  | 0, .b => .res_0_B
  | 0, .c => .res_0_C
  | 0, .d => .res_0_D
  | 0, .e => .res_0_E
  | 0, .h => .res_0_H
  | 0, .l => .res_0_L
  | 0, .indHL => .res_0_iHL
  | 0, .a => .res_0_A
  | 1, .b => .res_1_B
  | 1, .c => .res_1_C
  | 1, .d => .res_1_D
  | 1, .e => .res_1_E
  | 1, .h => .res_1_H
  | 1, .l => .res_1_L
  | 1, .indHL => .res_1_iHL
  | 1, .a => .res_1_A
  | 2, .b => .res_2_B
  | 2, .c => .res_2_C
  | 2, .d => .res_2_D
  | 2, .e => .res_2_E
  | 2, .h => .res_2_H
  | 2, .l => .res_2_L
  | 2, .indHL => .res_2_iHL
  | 2, .a => .res_2_A
  | 3, .b => .res_3_B
  | 3, .c => .res_3_C
  | 3, .d => .res_3_D
  | 3, .e => .res_3_E
  | 3, .h => .res_3_H
  | 3, .l => .res_3_L
  | 3, .indHL => .res_3_iHL
  | 3, .a => .res_3_A
  | 4, .b => .res_4_B
  | 4, .c => .res_4_C
  | 4, .d => .res_4_D
  | 4, .e => .res_4_E
  | 4, .h => .res_4_H
  | 4, .l => .res_4_L
  | 4, .indHL => .res_4_iHL
  | 4, .a => .res_4_A
  | 5, .b => .res_5_B
  | 5, .c => .res_5_C
  | 5, .d => .res_5_D
  | 5, .e => .res_5_E
  | 5, .h => .res_5_H
  | 5, .l => .res_5_L
  | 5, .indHL => .res_5_iHL
  | 5, .a => .res_5_A
  | 6, .b => .res_6_B
  | 6, .c => .res_6_C
  | 6, .d => .res_6_D
  | 6, .e => .res_6_E
  | 6, .h => .res_6_H
  | 6, .l => .res_6_L
  | 6, .indHL => .res_6_iHL
  | 6, .a => .res_6_A
  | 7, .b => .res_7_B
  | 7, .c => .res_7_C
  | 7, .d => .res_7_D
  | 7, .e => .res_7_E
  | 7, .h => .res_7_H
  | 7, .l => .res_7_L
  | 7, .indHL => .res_7_iHL
  | 7, .a => .res_7_A

/-- The x = 3 block of rule R142: `SET y,r8[z]`. -/
def set : Fin 8 → R8 → Instr
  | 0, .b => .set_0_B
  | 0, .c => .set_0_C
  | 0, .d => .set_0_D
  | 0, .e => .set_0_E
  | 0, .h => .set_0_H
  | 0, .l => .set_0_L
  | 0, .indHL => .set_0_iHL
  | 0, .a => .set_0_A
  | 1, .b => .set_1_B
  | 1, .c => .set_1_C
  | 1, .d => .set_1_D
  | 1, .e => .set_1_E
  | 1, .h => .set_1_H
  | 1, .l => .set_1_L
  | 1, .indHL => .set_1_iHL
  | 1, .a => .set_1_A
  | 2, .b => .set_2_B
  | 2, .c => .set_2_C
  | 2, .d => .set_2_D
  | 2, .e => .set_2_E
  | 2, .h => .set_2_H
  | 2, .l => .set_2_L
  | 2, .indHL => .set_2_iHL
  | 2, .a => .set_2_A
  | 3, .b => .set_3_B
  | 3, .c => .set_3_C
  | 3, .d => .set_3_D
  | 3, .e => .set_3_E
  | 3, .h => .set_3_H
  | 3, .l => .set_3_L
  | 3, .indHL => .set_3_iHL
  | 3, .a => .set_3_A
  | 4, .b => .set_4_B
  | 4, .c => .set_4_C
  | 4, .d => .set_4_D
  | 4, .e => .set_4_E
  | 4, .h => .set_4_H
  | 4, .l => .set_4_L
  | 4, .indHL => .set_4_iHL
  | 4, .a => .set_4_A
  | 5, .b => .set_5_B
  | 5, .c => .set_5_C
  | 5, .d => .set_5_D
  | 5, .e => .set_5_E
  | 5, .h => .set_5_H
  | 5, .l => .set_5_L
  | 5, .indHL => .set_5_iHL
  | 5, .a => .set_5_A
  | 6, .b => .set_6_B
  | 6, .c => .set_6_C
  | 6, .d => .set_6_D
  | 6, .e => .set_6_E
  | 6, .h => .set_6_H
  | 6, .l => .set_6_L
  | 6, .indHL => .set_6_iHL
  | 6, .a => .set_6_A
  | 7, .b => .set_7_B
  | 7, .c => .set_7_C
  | 7, .d => .set_7_D
  | 7, .e => .set_7_E
  | 7, .h => .set_7_H
  | 7, .l => .set_7_L
  | 7, .indHL => .set_7_iHL
  | 7, .a => .set_7_A

end Row

/-! ### The decoder -/

/-- Primary opcodes with x = 0 (rule R138). `n` is the byte after the opcode, `nn` the 16-bit immediate. -/
def decodeX0 (y z : Nat) (n : Byte) (nn : Addr) : Instr :=
  match z with
  | 0 =>
    match y with
    | 0 => .nop
    | 1 => .ld_ia16_SP nn
    | 2 => .stop n
    | 3 => .jr_e8 n
    | _ => Row.jrCc (ccIndex (y - 4)) n
  | 1 => if y % 2 = 0 then Row.ldPair (r16Index (y / 2)) nn else Row.addHl (r16Index (y / 2))
  | 2 => if y % 2 = 0 then Row.storeMem (r16MemIndex (y / 2)) else Row.loadMem (r16MemIndex (y / 2))
  | 3 => if y % 2 = 0 then Row.incPair (r16Index (y / 2)) else Row.decPair (r16Index (y / 2))
  | 4 => Row.inc (r8Index y)
  | 5 => Row.dec (r8Index y)
  | 6 => Row.ldImm (r8Index y) n
  | _ =>
    match y with
    | 0 => .rlca
    | 1 => .rrca
    | 2 => .rla
    | 3 => .rra
    | 4 => .daa
    | 5 => .cpl
    | 6 => .scf
    | _ => .ccf

/-- Primary opcodes with x = 3 (rules R140, R141). `op` gives RST its index. -/
def decodeX3 (op : Byte) (y z : Nat) (n : Byte) (nn : Addr) : Instr :=
  match z with
  | 0 =>
    match y with
    | 4 => .ldh_ia8_A n
    | 5 => .add_SP_e8 n
    | 6 => .ldh_A_ia8 n
    | 7 => .ld_HL_SPe8 n
    | _ => Row.retCc (ccIndex y)
  | 1 =>
    match y with
    | 1 => .ret
    | 3 => .reti
    | 5 => .jp_HL
    | 7 => .ld_SP_HL
    | _ => Row.pop (r16StkIndex (y / 2))
  | 2 =>
    match y with
    | 4 => .ldh_iC_A
    | 5 => .ld_ia16_A nn
    | 6 => .ldh_A_iC
    | 7 => .ld_A_ia16 nn
    | _ => Row.jpCc (ccIndex y) nn
  | 3 =>
    match y with
    | 0 => .jp_a16 nn
    | 1 => .prefixCb n
    | 2 => .illegal_D3
    | 3 => .illegal_DB
    | 4 => .illegal_E3
    | 5 => .illegal_EB
    | 6 => .di
    | _ => .ei
  | 4 =>
    match y with
    | 4 => .illegal_E4
    | 5 => .illegal_EC
    | 6 => .illegal_F4
    | 7 => .illegal_FC
    | _ => Row.callCc (ccIndex y) nn
  | 5 =>
    match y with
    | 1 => .call_a16 nn
    | 3 => .illegal_DD
    | 5 => .illegal_ED
    | 7 => .illegal_FD
    | _ => Row.push (r16StkIndex (y / 2))
  | 6 => Row.aluImm (aluIndex y) n
  | _ => Row.rst (fieldBit op)

/-- The primary row that the opcode byte `op` selects (rules R138 to R141, R147), with its immediates taken from the
two bytes that follow it. The row of 0xCB is PREFIX CB. -/
def decodePrimary (op b1 b2 : Byte) : Instr :=
  match fieldX op with
  | 0 => decodeX0 (fieldY op) (fieldZ op) b1 (joinBytes b2 b1)
  | 1 => Row.ld (r8Index (fieldY op)) (r8Index (fieldZ op))
  | 2 => Row.alu (aluIndex (fieldY op)) (r8Index (fieldZ op))
  | _ => decodeX3 op (fieldY op) (fieldZ op) b1 (joinBytes b2 b1)

/-- The CB row that the byte after 0xCB selects (rules R132, R142). -/
def decodeCb (cb : Byte) : Instr :=
  match fieldX cb with
  | 0 => Row.rot (rotIndex (fieldY cb)) (r8Index (fieldZ cb))
  | 1 => Row.bit (fieldBit cb) (r8Index (fieldZ cb))
  | 2 => Row.res (fieldBit cb) (r8Index (fieldZ cb))
  | _ => Row.set (fieldBit cb) (r8Index (fieldZ cb))

/-- The instruction that an opcode byte and the two bytes after it make (rule R147): the primary row, or, where that
row is PREFIX CB, the CB row of the second byte (rule R303). -/
def decodeOp (op b1 b2 : Byte) : Instr :=
  if op = 0xCB then decodeCb b1 else decodePrimary op b1 b2

/-- How many bytes follow the opcode byte: the length of rule R143 less one. -/
def operandCount (op : Byte) : Nat :=
  match fieldX op, fieldZ op with
  | 0, 0 =>
    match fieldY op with
    | 0 => 0
    | 1 => 2
    | _ => 1
  | 0, 1 => if fieldY op % 2 = 0 then 2 else 0
  | 0, 6 => 1
  | 3, 0 => if fieldY op < 4 then 0 else 1
  | 3, 2 =>
    match fieldY op with
    | 4 => 0
    | 6 => 0
    | _ => 2
  | 3, 3 =>
    match fieldY op with
    | 0 => 2
    | 1 => 1
    | _ => 0
  | 3, 4 => if fieldY op < 4 then 2 else 0
  | 3, 5 => if fieldY op = 1 then 2 else 0
  | 3, 6 => 1
  | _, _ => 0

/-- Why a list of bytes is no instruction. Every first byte selects a row (rule R147), so a list can only be too
short. -/
inductive DecodeError where
  /-- There is no byte. -/
  | empty
  /-- The opcode byte `op` needs more bytes than there are. -/
  | truncated (op : Byte)
  deriving DecidableEq, Repr

/-- Decodes the instruction at the head of a list of bytes and returns it with the bytes after it. -/
def decode : List Byte → Except DecodeError (Instr × List Byte)
  | [] => .error .empty
  | op :: rest =>
    match operandCount op, rest with
    | 0, rest => .ok (decodeOp op 0 0, rest)
    | 1, b1 :: rest => .ok (decodeOp op b1 0, rest)
    | 2, b1 :: b2 :: rest => .ok (decodeOp op b1 b2, rest)
    | _, _ => .error (.truncated op)

/-- The bytes of an instruction given as a number of `nbits` bits in the numbering of opcode_table.json, padded with
zero bytes to the longest instruction. A 16-bit word whose high byte is 0xCB is a CB row: the table keeps the first
byte fetched in bits 15:8 there (rule R148); every other word has its first byte in bits 7:0 (log 13). -/
def tableBytes (nbits w : Nat) : List Byte :=
  if nbits = 16 ∧ w / 256 % 256 = 0xCB then [0xCB, BitVec.ofNat 8 w, 0]
  else [BitVec.ofNat 8 w, BitVec.ofNat 8 (w / 256), BitVec.ofNat 8 (w / 65536)]

/-- The row of opcode_table.json that a word of that table selects. A word of 8 bits is a row of the primary table, so
it is answered from that table (0xCB alone is PREFIX CB, which a whole instruction never is, log 12); any other word is
answered by `decode`. -/
def decodeTableWord (nbits w : Nat) : Option Instr :=
  if nbits = 8 then
    match tableBytes nbits w with
    | [op, b1, b2] => some (decodePrimary op b1 b2)
    | _ => none
  else
    match decode (tableBytes nbits w) with
    | .ok (i, _) => some i
    | .error _ => none

/-! ### The encoder -/

/-- The bytes of an instruction, in the order they are fetched: the opcode columns of rules R138 to R142 and the
immediates of rule R137, low byte first. -/
def encode : Instr → List Byte
  | .nop => [0x00]
  | .ld_BC_n16 n => [0x01, loByte n, hiByte n]
  | .ld_iBC_A => [0x02]
  | .inc_BC => [0x03]
  | .inc_B => [0x04]
  | .dec_B => [0x05]
  | .ld_B_n8 n => [0x06, n]
  | .rlca => [0x07]
  | .ld_ia16_SP a => [0x08, loByte a, hiByte a]
  | .add_HL_BC => [0x09]
  | .ld_A_iBC => [0x0A]
  | .dec_BC => [0x0B]
  | .inc_C => [0x0C]
  | .dec_C => [0x0D]
  | .ld_C_n8 n => [0x0E, n]
  | .rrca => [0x0F]
  | .stop p => [0x10, p]
  | .ld_DE_n16 n => [0x11, loByte n, hiByte n]
  | .ld_iDE_A => [0x12]
  | .inc_DE => [0x13]
  | .inc_D => [0x14]
  | .dec_D => [0x15]
  | .ld_D_n8 n => [0x16, n]
  | .rla => [0x17]
  | .jr_e8 e => [0x18, e]
  | .add_HL_DE => [0x19]
  | .ld_A_iDE => [0x1A]
  | .dec_DE => [0x1B]
  | .inc_E => [0x1C]
  | .dec_E => [0x1D]
  | .ld_E_n8 n => [0x1E, n]
  | .rra => [0x1F]
  | .jr_NZ_e8 e => [0x20, e]
  | .ld_HL_n16 n => [0x21, loByte n, hiByte n]
  | .ld_iHLinc_A => [0x22]
  | .inc_HL => [0x23]
  | .inc_H => [0x24]
  | .dec_H => [0x25]
  | .ld_H_n8 n => [0x26, n]
  | .daa => [0x27]
  | .jr_Z_e8 e => [0x28, e]
  | .add_HL_HL => [0x29]
  | .ld_A_iHLinc => [0x2A]
  | .dec_HL => [0x2B]
  | .inc_L => [0x2C]
  | .dec_L => [0x2D]
  | .ld_L_n8 n => [0x2E, n]
  | .cpl => [0x2F]
  | .jr_NC_e8 e => [0x30, e]
  | .ld_SP_n16 n => [0x31, loByte n, hiByte n]
  | .ld_iHLdec_A => [0x32]
  | .inc_SP => [0x33]
  | .inc_iHL => [0x34]
  | .dec_iHL => [0x35]
  | .ld_iHL_n8 n => [0x36, n]
  | .scf => [0x37]
  | .jr_C_e8 e => [0x38, e]
  | .add_HL_SP => [0x39]
  | .ld_A_iHLdec => [0x3A]
  | .dec_SP => [0x3B]
  | .inc_A => [0x3C]
  | .dec_A => [0x3D]
  | .ld_A_n8 n => [0x3E, n]
  | .ccf => [0x3F]
  | .ld_B_B => [0x40]
  | .ld_B_C => [0x41]
  | .ld_B_D => [0x42]
  | .ld_B_E => [0x43]
  | .ld_B_H => [0x44]
  | .ld_B_L => [0x45]
  | .ld_B_iHL => [0x46]
  | .ld_B_A => [0x47]
  | .ld_C_B => [0x48]
  | .ld_C_C => [0x49]
  | .ld_C_D => [0x4A]
  | .ld_C_E => [0x4B]
  | .ld_C_H => [0x4C]
  | .ld_C_L => [0x4D]
  | .ld_C_iHL => [0x4E]
  | .ld_C_A => [0x4F]
  | .ld_D_B => [0x50]
  | .ld_D_C => [0x51]
  | .ld_D_D => [0x52]
  | .ld_D_E => [0x53]
  | .ld_D_H => [0x54]
  | .ld_D_L => [0x55]
  | .ld_D_iHL => [0x56]
  | .ld_D_A => [0x57]
  | .ld_E_B => [0x58]
  | .ld_E_C => [0x59]
  | .ld_E_D => [0x5A]
  | .ld_E_E => [0x5B]
  | .ld_E_H => [0x5C]
  | .ld_E_L => [0x5D]
  | .ld_E_iHL => [0x5E]
  | .ld_E_A => [0x5F]
  | .ld_H_B => [0x60]
  | .ld_H_C => [0x61]
  | .ld_H_D => [0x62]
  | .ld_H_E => [0x63]
  | .ld_H_H => [0x64]
  | .ld_H_L => [0x65]
  | .ld_H_iHL => [0x66]
  | .ld_H_A => [0x67]
  | .ld_L_B => [0x68]
  | .ld_L_C => [0x69]
  | .ld_L_D => [0x6A]
  | .ld_L_E => [0x6B]
  | .ld_L_H => [0x6C]
  | .ld_L_L => [0x6D]
  | .ld_L_iHL => [0x6E]
  | .ld_L_A => [0x6F]
  | .ld_iHL_B => [0x70]
  | .ld_iHL_C => [0x71]
  | .ld_iHL_D => [0x72]
  | .ld_iHL_E => [0x73]
  | .ld_iHL_H => [0x74]
  | .ld_iHL_L => [0x75]
  | .halt => [0x76]
  | .ld_iHL_A => [0x77]
  | .ld_A_B => [0x78]
  | .ld_A_C => [0x79]
  | .ld_A_D => [0x7A]
  | .ld_A_E => [0x7B]
  | .ld_A_H => [0x7C]
  | .ld_A_L => [0x7D]
  | .ld_A_iHL => [0x7E]
  | .ld_A_A => [0x7F]
  | .add_A_B => [0x80]
  | .add_A_C => [0x81]
  | .add_A_D => [0x82]
  | .add_A_E => [0x83]
  | .add_A_H => [0x84]
  | .add_A_L => [0x85]
  | .add_A_iHL => [0x86]
  | .add_A_A => [0x87]
  | .adc_A_B => [0x88]
  | .adc_A_C => [0x89]
  | .adc_A_D => [0x8A]
  | .adc_A_E => [0x8B]
  | .adc_A_H => [0x8C]
  | .adc_A_L => [0x8D]
  | .adc_A_iHL => [0x8E]
  | .adc_A_A => [0x8F]
  | .sub_A_B => [0x90]
  | .sub_A_C => [0x91]
  | .sub_A_D => [0x92]
  | .sub_A_E => [0x93]
  | .sub_A_H => [0x94]
  | .sub_A_L => [0x95]
  | .sub_A_iHL => [0x96]
  | .sub_A_A => [0x97]
  | .sbc_A_B => [0x98]
  | .sbc_A_C => [0x99]
  | .sbc_A_D => [0x9A]
  | .sbc_A_E => [0x9B]
  | .sbc_A_H => [0x9C]
  | .sbc_A_L => [0x9D]
  | .sbc_A_iHL => [0x9E]
  | .sbc_A_A => [0x9F]
  | .and_A_B => [0xA0]
  | .and_A_C => [0xA1]
  | .and_A_D => [0xA2]
  | .and_A_E => [0xA3]
  | .and_A_H => [0xA4]
  | .and_A_L => [0xA5]
  | .and_A_iHL => [0xA6]
  | .and_A_A => [0xA7]
  | .xor_A_B => [0xA8]
  | .xor_A_C => [0xA9]
  | .xor_A_D => [0xAA]
  | .xor_A_E => [0xAB]
  | .xor_A_H => [0xAC]
  | .xor_A_L => [0xAD]
  | .xor_A_iHL => [0xAE]
  | .xor_A_A => [0xAF]
  | .or_A_B => [0xB0]
  | .or_A_C => [0xB1]
  | .or_A_D => [0xB2]
  | .or_A_E => [0xB3]
  | .or_A_H => [0xB4]
  | .or_A_L => [0xB5]
  | .or_A_iHL => [0xB6]
  | .or_A_A => [0xB7]
  | .cp_A_B => [0xB8]
  | .cp_A_C => [0xB9]
  | .cp_A_D => [0xBA]
  | .cp_A_E => [0xBB]
  | .cp_A_H => [0xBC]
  | .cp_A_L => [0xBD]
  | .cp_A_iHL => [0xBE]
  | .cp_A_A => [0xBF]
  | .ret_NZ => [0xC0]
  | .pop_BC => [0xC1]
  | .jp_NZ_a16 a => [0xC2, loByte a, hiByte a]
  | .jp_a16 a => [0xC3, loByte a, hiByte a]
  | .call_NZ_a16 a => [0xC4, loByte a, hiByte a]
  | .push_BC => [0xC5]
  | .add_A_n8 n => [0xC6, n]
  | .rst_00 => [0xC7]
  | .ret_Z => [0xC8]
  | .ret => [0xC9]
  | .jp_Z_a16 a => [0xCA, loByte a, hiByte a]
  | .prefixCb cb => [0xCB, cb]
  | .call_Z_a16 a => [0xCC, loByte a, hiByte a]
  | .call_a16 a => [0xCD, loByte a, hiByte a]
  | .adc_A_n8 n => [0xCE, n]
  | .rst_08 => [0xCF]
  | .ret_NC => [0xD0]
  | .pop_DE => [0xD1]
  | .jp_NC_a16 a => [0xD2, loByte a, hiByte a]
  | .illegal_D3 => [0xD3]
  | .call_NC_a16 a => [0xD4, loByte a, hiByte a]
  | .push_DE => [0xD5]
  | .sub_A_n8 n => [0xD6, n]
  | .rst_10 => [0xD7]
  | .ret_C => [0xD8]
  | .reti => [0xD9]
  | .jp_C_a16 a => [0xDA, loByte a, hiByte a]
  | .illegal_DB => [0xDB]
  | .call_C_a16 a => [0xDC, loByte a, hiByte a]
  | .illegal_DD => [0xDD]
  | .sbc_A_n8 n => [0xDE, n]
  | .rst_18 => [0xDF]
  | .ldh_ia8_A n => [0xE0, n]
  | .pop_HL => [0xE1]
  | .ldh_iC_A => [0xE2]
  | .illegal_E3 => [0xE3]
  | .illegal_E4 => [0xE4]
  | .push_HL => [0xE5]
  | .and_A_n8 n => [0xE6, n]
  | .rst_20 => [0xE7]
  | .add_SP_e8 e => [0xE8, e]
  | .jp_HL => [0xE9]
  | .ld_ia16_A a => [0xEA, loByte a, hiByte a]
  | .illegal_EB => [0xEB]
  | .illegal_EC => [0xEC]
  | .illegal_ED => [0xED]
  | .xor_A_n8 n => [0xEE, n]
  | .rst_28 => [0xEF]
  | .ldh_A_ia8 n => [0xF0, n]
  | .pop_AF => [0xF1]
  | .ldh_A_iC => [0xF2]
  | .di => [0xF3]
  | .illegal_F4 => [0xF4]
  | .push_AF => [0xF5]
  | .or_A_n8 n => [0xF6, n]
  | .rst_30 => [0xF7]
  | .ld_HL_SPe8 e => [0xF8, e]
  | .ld_SP_HL => [0xF9]
  | .ld_A_ia16 a => [0xFA, loByte a, hiByte a]
  | .ei => [0xFB]
  | .illegal_FC => [0xFC]
  | .illegal_FD => [0xFD]
  | .cp_A_n8 n => [0xFE, n]
  | .rst_38 => [0xFF]
  | .rlc_B => [0xCB, 0x00]
  | .rlc_C => [0xCB, 0x01]
  | .rlc_D => [0xCB, 0x02]
  | .rlc_E => [0xCB, 0x03]
  | .rlc_H => [0xCB, 0x04]
  | .rlc_L => [0xCB, 0x05]
  | .rlc_iHL => [0xCB, 0x06]
  | .rlc_A => [0xCB, 0x07]
  | .rrc_B => [0xCB, 0x08]
  | .rrc_C => [0xCB, 0x09]
  | .rrc_D => [0xCB, 0x0A]
  | .rrc_E => [0xCB, 0x0B]
  | .rrc_H => [0xCB, 0x0C]
  | .rrc_L => [0xCB, 0x0D]
  | .rrc_iHL => [0xCB, 0x0E]
  | .rrc_A => [0xCB, 0x0F]
  | .rl_B => [0xCB, 0x10]
  | .rl_C => [0xCB, 0x11]
  | .rl_D => [0xCB, 0x12]
  | .rl_E => [0xCB, 0x13]
  | .rl_H => [0xCB, 0x14]
  | .rl_L => [0xCB, 0x15]
  | .rl_iHL => [0xCB, 0x16]
  | .rl_A => [0xCB, 0x17]
  | .rr_B => [0xCB, 0x18]
  | .rr_C => [0xCB, 0x19]
  | .rr_D => [0xCB, 0x1A]
  | .rr_E => [0xCB, 0x1B]
  | .rr_H => [0xCB, 0x1C]
  | .rr_L => [0xCB, 0x1D]
  | .rr_iHL => [0xCB, 0x1E]
  | .rr_A => [0xCB, 0x1F]
  | .sla_B => [0xCB, 0x20]
  | .sla_C => [0xCB, 0x21]
  | .sla_D => [0xCB, 0x22]
  | .sla_E => [0xCB, 0x23]
  | .sla_H => [0xCB, 0x24]
  | .sla_L => [0xCB, 0x25]
  | .sla_iHL => [0xCB, 0x26]
  | .sla_A => [0xCB, 0x27]
  | .sra_B => [0xCB, 0x28]
  | .sra_C => [0xCB, 0x29]
  | .sra_D => [0xCB, 0x2A]
  | .sra_E => [0xCB, 0x2B]
  | .sra_H => [0xCB, 0x2C]
  | .sra_L => [0xCB, 0x2D]
  | .sra_iHL => [0xCB, 0x2E]
  | .sra_A => [0xCB, 0x2F]
  | .swap_B => [0xCB, 0x30]
  | .swap_C => [0xCB, 0x31]
  | .swap_D => [0xCB, 0x32]
  | .swap_E => [0xCB, 0x33]
  | .swap_H => [0xCB, 0x34]
  | .swap_L => [0xCB, 0x35]
  | .swap_iHL => [0xCB, 0x36]
  | .swap_A => [0xCB, 0x37]
  | .srl_B => [0xCB, 0x38]
  | .srl_C => [0xCB, 0x39]
  | .srl_D => [0xCB, 0x3A]
  | .srl_E => [0xCB, 0x3B]
  | .srl_H => [0xCB, 0x3C]
  | .srl_L => [0xCB, 0x3D]
  | .srl_iHL => [0xCB, 0x3E]
  | .srl_A => [0xCB, 0x3F]
  | .bit_0_B => [0xCB, 0x40]
  | .bit_0_C => [0xCB, 0x41]
  | .bit_0_D => [0xCB, 0x42]
  | .bit_0_E => [0xCB, 0x43]
  | .bit_0_H => [0xCB, 0x44]
  | .bit_0_L => [0xCB, 0x45]
  | .bit_0_iHL => [0xCB, 0x46]
  | .bit_0_A => [0xCB, 0x47]
  | .bit_1_B => [0xCB, 0x48]
  | .bit_1_C => [0xCB, 0x49]
  | .bit_1_D => [0xCB, 0x4A]
  | .bit_1_E => [0xCB, 0x4B]
  | .bit_1_H => [0xCB, 0x4C]
  | .bit_1_L => [0xCB, 0x4D]
  | .bit_1_iHL => [0xCB, 0x4E]
  | .bit_1_A => [0xCB, 0x4F]
  | .bit_2_B => [0xCB, 0x50]
  | .bit_2_C => [0xCB, 0x51]
  | .bit_2_D => [0xCB, 0x52]
  | .bit_2_E => [0xCB, 0x53]
  | .bit_2_H => [0xCB, 0x54]
  | .bit_2_L => [0xCB, 0x55]
  | .bit_2_iHL => [0xCB, 0x56]
  | .bit_2_A => [0xCB, 0x57]
  | .bit_3_B => [0xCB, 0x58]
  | .bit_3_C => [0xCB, 0x59]
  | .bit_3_D => [0xCB, 0x5A]
  | .bit_3_E => [0xCB, 0x5B]
  | .bit_3_H => [0xCB, 0x5C]
  | .bit_3_L => [0xCB, 0x5D]
  | .bit_3_iHL => [0xCB, 0x5E]
  | .bit_3_A => [0xCB, 0x5F]
  | .bit_4_B => [0xCB, 0x60]
  | .bit_4_C => [0xCB, 0x61]
  | .bit_4_D => [0xCB, 0x62]
  | .bit_4_E => [0xCB, 0x63]
  | .bit_4_H => [0xCB, 0x64]
  | .bit_4_L => [0xCB, 0x65]
  | .bit_4_iHL => [0xCB, 0x66]
  | .bit_4_A => [0xCB, 0x67]
  | .bit_5_B => [0xCB, 0x68]
  | .bit_5_C => [0xCB, 0x69]
  | .bit_5_D => [0xCB, 0x6A]
  | .bit_5_E => [0xCB, 0x6B]
  | .bit_5_H => [0xCB, 0x6C]
  | .bit_5_L => [0xCB, 0x6D]
  | .bit_5_iHL => [0xCB, 0x6E]
  | .bit_5_A => [0xCB, 0x6F]
  | .bit_6_B => [0xCB, 0x70]
  | .bit_6_C => [0xCB, 0x71]
  | .bit_6_D => [0xCB, 0x72]
  | .bit_6_E => [0xCB, 0x73]
  | .bit_6_H => [0xCB, 0x74]
  | .bit_6_L => [0xCB, 0x75]
  | .bit_6_iHL => [0xCB, 0x76]
  | .bit_6_A => [0xCB, 0x77]
  | .bit_7_B => [0xCB, 0x78]
  | .bit_7_C => [0xCB, 0x79]
  | .bit_7_D => [0xCB, 0x7A]
  | .bit_7_E => [0xCB, 0x7B]
  | .bit_7_H => [0xCB, 0x7C]
  | .bit_7_L => [0xCB, 0x7D]
  | .bit_7_iHL => [0xCB, 0x7E]
  | .bit_7_A => [0xCB, 0x7F]
  | .res_0_B => [0xCB, 0x80]
  | .res_0_C => [0xCB, 0x81]
  | .res_0_D => [0xCB, 0x82]
  | .res_0_E => [0xCB, 0x83]
  | .res_0_H => [0xCB, 0x84]
  | .res_0_L => [0xCB, 0x85]
  | .res_0_iHL => [0xCB, 0x86]
  | .res_0_A => [0xCB, 0x87]
  | .res_1_B => [0xCB, 0x88]
  | .res_1_C => [0xCB, 0x89]
  | .res_1_D => [0xCB, 0x8A]
  | .res_1_E => [0xCB, 0x8B]
  | .res_1_H => [0xCB, 0x8C]
  | .res_1_L => [0xCB, 0x8D]
  | .res_1_iHL => [0xCB, 0x8E]
  | .res_1_A => [0xCB, 0x8F]
  | .res_2_B => [0xCB, 0x90]
  | .res_2_C => [0xCB, 0x91]
  | .res_2_D => [0xCB, 0x92]
  | .res_2_E => [0xCB, 0x93]
  | .res_2_H => [0xCB, 0x94]
  | .res_2_L => [0xCB, 0x95]
  | .res_2_iHL => [0xCB, 0x96]
  | .res_2_A => [0xCB, 0x97]
  | .res_3_B => [0xCB, 0x98]
  | .res_3_C => [0xCB, 0x99]
  | .res_3_D => [0xCB, 0x9A]
  | .res_3_E => [0xCB, 0x9B]
  | .res_3_H => [0xCB, 0x9C]
  | .res_3_L => [0xCB, 0x9D]
  | .res_3_iHL => [0xCB, 0x9E]
  | .res_3_A => [0xCB, 0x9F]
  | .res_4_B => [0xCB, 0xA0]
  | .res_4_C => [0xCB, 0xA1]
  | .res_4_D => [0xCB, 0xA2]
  | .res_4_E => [0xCB, 0xA3]
  | .res_4_H => [0xCB, 0xA4]
  | .res_4_L => [0xCB, 0xA5]
  | .res_4_iHL => [0xCB, 0xA6]
  | .res_4_A => [0xCB, 0xA7]
  | .res_5_B => [0xCB, 0xA8]
  | .res_5_C => [0xCB, 0xA9]
  | .res_5_D => [0xCB, 0xAA]
  | .res_5_E => [0xCB, 0xAB]
  | .res_5_H => [0xCB, 0xAC]
  | .res_5_L => [0xCB, 0xAD]
  | .res_5_iHL => [0xCB, 0xAE]
  | .res_5_A => [0xCB, 0xAF]
  | .res_6_B => [0xCB, 0xB0]
  | .res_6_C => [0xCB, 0xB1]
  | .res_6_D => [0xCB, 0xB2]
  | .res_6_E => [0xCB, 0xB3]
  | .res_6_H => [0xCB, 0xB4]
  | .res_6_L => [0xCB, 0xB5]
  | .res_6_iHL => [0xCB, 0xB6]
  | .res_6_A => [0xCB, 0xB7]
  | .res_7_B => [0xCB, 0xB8]
  | .res_7_C => [0xCB, 0xB9]
  | .res_7_D => [0xCB, 0xBA]
  | .res_7_E => [0xCB, 0xBB]
  | .res_7_H => [0xCB, 0xBC]
  | .res_7_L => [0xCB, 0xBD]
  | .res_7_iHL => [0xCB, 0xBE]
  | .res_7_A => [0xCB, 0xBF]
  | .set_0_B => [0xCB, 0xC0]
  | .set_0_C => [0xCB, 0xC1]
  | .set_0_D => [0xCB, 0xC2]
  | .set_0_E => [0xCB, 0xC3]
  | .set_0_H => [0xCB, 0xC4]
  | .set_0_L => [0xCB, 0xC5]
  | .set_0_iHL => [0xCB, 0xC6]
  | .set_0_A => [0xCB, 0xC7]
  | .set_1_B => [0xCB, 0xC8]
  | .set_1_C => [0xCB, 0xC9]
  | .set_1_D => [0xCB, 0xCA]
  | .set_1_E => [0xCB, 0xCB]
  | .set_1_H => [0xCB, 0xCC]
  | .set_1_L => [0xCB, 0xCD]
  | .set_1_iHL => [0xCB, 0xCE]
  | .set_1_A => [0xCB, 0xCF]
  | .set_2_B => [0xCB, 0xD0]
  | .set_2_C => [0xCB, 0xD1]
  | .set_2_D => [0xCB, 0xD2]
  | .set_2_E => [0xCB, 0xD3]
  | .set_2_H => [0xCB, 0xD4]
  | .set_2_L => [0xCB, 0xD5]
  | .set_2_iHL => [0xCB, 0xD6]
  | .set_2_A => [0xCB, 0xD7]
  | .set_3_B => [0xCB, 0xD8]
  | .set_3_C => [0xCB, 0xD9]
  | .set_3_D => [0xCB, 0xDA]
  | .set_3_E => [0xCB, 0xDB]
  | .set_3_H => [0xCB, 0xDC]
  | .set_3_L => [0xCB, 0xDD]
  | .set_3_iHL => [0xCB, 0xDE]
  | .set_3_A => [0xCB, 0xDF]
  | .set_4_B => [0xCB, 0xE0]
  | .set_4_C => [0xCB, 0xE1]
  | .set_4_D => [0xCB, 0xE2]
  | .set_4_E => [0xCB, 0xE3]
  | .set_4_H => [0xCB, 0xE4]
  | .set_4_L => [0xCB, 0xE5]
  | .set_4_iHL => [0xCB, 0xE6]
  | .set_4_A => [0xCB, 0xE7]
  | .set_5_B => [0xCB, 0xE8]
  | .set_5_C => [0xCB, 0xE9]
  | .set_5_D => [0xCB, 0xEA]
  | .set_5_E => [0xCB, 0xEB]
  | .set_5_H => [0xCB, 0xEC]
  | .set_5_L => [0xCB, 0xED]
  | .set_5_iHL => [0xCB, 0xEE]
  | .set_5_A => [0xCB, 0xEF]
  | .set_6_B => [0xCB, 0xF0]
  | .set_6_C => [0xCB, 0xF1]
  | .set_6_D => [0xCB, 0xF2]
  | .set_6_E => [0xCB, 0xF3]
  | .set_6_H => [0xCB, 0xF4]
  | .set_6_L => [0xCB, 0xF5]
  | .set_6_iHL => [0xCB, 0xF6]
  | .set_6_A => [0xCB, 0xF7]
  | .set_7_B => [0xCB, 0xF8]
  | .set_7_C => [0xCB, 0xF9]
  | .set_7_D => [0xCB, 0xFA]
  | .set_7_E => [0xCB, 0xFB]
  | .set_7_H => [0xCB, 0xFC]
  | .set_7_L => [0xCB, 0xFD]
  | .set_7_iHL => [0xCB, 0xFE]
  | .set_7_A => [0xCB, 0xFF]

end Sys2Proof
end

