-- ==== Sys2Proof/Machine/State.lean ====
section
/-! DEFINITION. The state of the machine (10_state.md) as plain data, the reasons a machine cannot be built, and the
state right after reset (70_reset_and_hazards.md rules R420 to R426). -/

namespace Sys2Proof.Machine

/-! ### Byte stores -/

/-- A sparse array of `w`-bit entries: a list of (index, entry) pairs. An index that is not listed reads as
`Config.fill` (log 3). -/
abbrev Store (w : Nat) := List (Nat × BitVec w)

/-- A memory: a list of (address, byte) pairs, the cells of Host/Core.lean. -/
abbrev Memory := Store 8

/-! ### The CPU -/

/-- The four flags of F (rule R22). Bits 3:0 of F hold nothing: they read 0 and ignore writes. -/
structure Flags where
  z : Bool
  n : Bool
  h : Bool
  cy : Bool
  deriving DecidableEq, Repr

/-- The two values of `ime_enable_after` (rule R28). -/
inductive ImeDelay where
  | none
  | nextInstruction
  deriving DecidableEq, Repr

/-- The CPU: the register file (rules R20 to R25) and the control bits (rules R27 to R32). F is held as its flags. -/
structure Cpu where
  a : Byte
  flags : Flags
  b : Byte
  c : Byte
  d : Byte
  e : Byte
  h : Byte
  l : Byte
  sp : Addr
  pc : Addr
  /-- The interrupt master enable, rule R27. -/
  ime : Bool
  /-- EI's delay, rule R28. -/
  imeEnableAfter : ImeDelay
  /-- Rule R29. -/
  halt : Bool
  /-- Rule R30. -/
  stop : Bool
  /-- The HALT bug waiting for the next opcode fetch, rule R31. -/
  haltBug : Bool
  /-- An undefined opcode has locked the CPU, rule R32. -/
  lock : Bool
  deriving DecidableEq, Repr

/-! ### Interrupts, timer, PPU -/

/-- The interrupt registers: the five stored bits of IF (rule R34) and the eight of IE (rule R35). -/
structure Irq where
  ifr : BitVec 5
  ie : Byte
  deriving DecidableEq, Repr

/-- The five sources of rule R340, in the order of their ids. -/
inductive IrqSource where
  | vblank | stat | timer | serial | joypad
  deriving DecidableEq, Repr

/-- One step's `ExtIrq` (rules R7, R341): the request lines driven from outside the block. -/
structure ExtIrq where
  serial : Bool
  joypad : Bool
  deriving DecidableEq, Repr

/-- The timer (rule R360). -/
structure Timer where
  /-- The free-running counter whose high byte is DIV, rule R36. -/
  div : BitVec 16
  tima : Byte
  tma : Byte
  /-- The three stored bits of TAC, rule R39. -/
  tac : BitVec 3
  /-- `tima_reload` of rule R40: T-cycles until the reload, 0 when none is pending. -/
  reload : Nat
  deriving DecidableEq, Repr

/-- The PPU modes of rule R49, in the order of their numbers. -/
inductive PpuMode where
  | hblank | vblank | oamScan | draw
  deriving DecidableEq, Repr

/-- The PPU's registers (rules R41 to R48) and internal state (rule R49). -/
structure Ppu where
  lcdc : Byte
  /-- STAT[6:3], the interrupt source enables: bit m enables mode m, bit 3 the LYC comparison (rule R42). -/
  statEn : BitVec 4
  scy : Byte
  scx : Byte
  lyc : Byte
  dma : Byte
  bgp : Byte
  obp0 : Byte
  obp1 : Byte
  wy : Byte
  wx : Byte
  mode : PpuMode
  /-- The current line, 0..153. -/
  ly : Nat
  /-- `dots_in_line`, 0..455. -/
  dots : Nat
  /-- STAT[2]. -/
  lycFlag : Bool
  /-- `framebuffer[y][x]` at index 160 y + x (log 20). -/
  framebuffer : Store 2
  deriving DecidableEq, Repr

/-! ### The cartridge -/

/-- The MBC1 banking mode (rules R52, R95). -/
inductive Mbc1Mode where
  | rom | ram
  deriving DecidableEq, Repr

/-- MBC1's registers (rule R52). -/
structure Mbc1 where
  romBank : BitVec 5
  ramBank : BitVec 2
  ramEnable : Bool
  mode : Mbc1Mode
  deriving DecidableEq, Repr

/-- MBC2's registers (rule R52). -/
structure Mbc2 where
  romBank : BitVec 4
  ramEnable : Bool
  deriving DecidableEq, Repr

/-- MBC3's registers (rule R52) with the clock of rule R99: the live registers, the latched ones that reads return, and
the last value written to 0x6000-0x7FFF. -/
structure Mbc3 where
  romBank : BitVec 7
  ramBank : Byte
  ramEnable : Bool
  rtcLive : RtcRegs
  rtcLatched : RtcRegs
  rtcLatch : Byte
  deriving DecidableEq, Repr

/-- MBC5's registers (rule R52). -/
structure Mbc5 where
  romBank : BitVec 9
  ramBank : BitVec 4
  ramEnable : Bool
  rumble : Bool
  deriving DecidableEq, Repr

/-- The bank controller, "a tagged variant" (rule R52). -/
inductive Mbc where
  | none
  | mbc1 (m : Mbc1)
  | mbc2 (m : Mbc2)
  | mbc3 (m : Mbc3)
  | mbc5 (m : Mbc5)
  deriving DecidableEq, Repr

/-- The cartridge (rule R52). The ROM image is a parameter that nothing changes (rule R53); it stands here so that a
state can be written out (log 4). -/
structure Cartridge where
  rom : Memory
  romLen : Nat
  extRam : Memory
  extRamLen : Nat
  /-- The rumble column of rule R92, which rule R100 reads. -/
  rumbleCart : Bool
  mbc : Mbc
  deriving DecidableEq, Repr

/-! ### The machine -/

/-- The whole machine. `mem` holds VRAM, WRAM, OAM and HRAM (rule R51), each under its bus address. `params`, `extIrq`,
`draws` and `cycles` are the model's own fields: the parameters of rule R7 (log 5), the outside requests still to come,
one entry a step (log 6), the counter behind the free values (log 7), and the cycle count of the last step (rule R321,
log 10). -/
structure State where
  cpu : Cpu
  irq : Irq
  timer : Timer
  ppu : Ppu
  mem : Memory
  cart : Cartridge
  params : Params
  extIrq : List ExtIrq
  draws : Nat
  cycles : Nat
  deriving DecidableEq, Repr

/-- Why no machine exists for a ROM image (rules R90, R92, R325: "refusals at construction, not run-time exceptions").
Raised by `State.construct` alone; no step ends in a fault. Both are safe: nothing runs. -/
inductive Fault where
  /-- The image's length is below 32 KiB or no multiple of 16 KiB (rule R90), whatever its header holds (log 22). Safe. -/
  | invalidRomSize
  /-- The image disagrees with its size code, or its type is not supported (rules R90, R92, log 16). Safe. -/
  | unsupportedCartridge
  deriving DecidableEq, Repr

/-- Why an instruction is refused. -/
inductive Refusal where
  /-- The instruction has no meaning in this model yet. Raised by exec's refused arms alone, of which there are none.
  Safe: the run ends. -/
  | notModelled (mnemonic : String)
  deriving DecidableEq, Repr

/-- What a meaning, and a step, answers. -/
abbrev Result := Host.Outcome State Fault Refusal

/-! ### Reset -/

/-- The CPU at reset: rules R421 and R422, with the defaults of `RESET_REGS` (log 1). -/
def Cpu.reset : Cpu where
  a := 0x01
  flags := { z := true, n := false, h := true, cy := true }
  b := 0x00
  c := 0x13
  d := 0x00
  e := 0xD8
  h := 0x01
  l := 0x4D
  sp := 0xFFFE
  pc := Config.entryPoint
  ime := false
  imeEnableAfter := .none
  halt := false
  stop := false
  haltBug := false
  lock := false

/-- IF and IE at reset: rule R423, with the defaults of `RESET_IO` (log 2). -/
def Irq.reset : Irq where
  ifr := 0b00001
  ie := 0x00

/-- The timer at reset: rule R423 (log 2). -/
def Timer.reset : Timer where
  div := 0xABCC
  tima := 0x00
  tma := 0x00
  tac := 0b000
  reload := 0

/-- The PPU at reset: rule R423 (log 2). -/
def Ppu.reset : Ppu where
  lcdc := 0x91
  statEn := 0b0000
  scy := 0x00
  scx := 0x00
  lyc := 0x00
  dma := 0xFF
  bgp := 0xFC
  obp0 := 0xFF
  obp1 := 0xFF
  wy := 0x00
  wx := 0x00
  mode := .oamScan
  ly := 0
  dots := 0
  lycFlag := true
  framebuffer := []

/-- The cartridge of `State.reset`: a blank 32 KiB image of kind None with no external RAM. The spec supplies no image;
DESIGN CHOICE (log 4). -/
def Cartridge.blank : Cartridge where
  rom := []
  romLen := 0x8000
  extRam := []
  extRamLen := 0
  rumbleCart := false
  mbc := .none

/-- What rules R51, R52, R424 and R425 leave open at power-on, an argument of building a machine (`State.construct`) and
no part of State: the parameter `RESET_MEM` of rule R7, "any value", as a function of the bus address for VRAM, WRAM, OAM
and HRAM and of the index for external RAM, and the clock of an MBC3 cartridge. -/
structure PowerOn where
  ram : Nat → Byte
  extRam : Nat → Byte
  rtcLive : RtcRegs
  rtcLatched : RtcRegs

/-- The machine right after reset with a given cartridge and given contents of VRAM, WRAM, OAM and HRAM (rules R420,
R424). -/
def State.resetWith (cart : Cartridge) (mem : Memory) : State where
  cpu := .reset
  irq := .reset
  timer := .reset
  ppu := .reset
  mem := mem
  cart := cart
  params := Config.params
  extIrq := []
  draws := 0
  cycles := 0

/-- The machine right after reset, with the blank cartridge and no RAM byte listed (log 3): one of the machines of
`State.construct`, which takes every contents of RAM. -/
def State.reset : State := .resetWith .blank []

end Sys2Proof.Machine
end

