-- ==== Sys2Proof/Machine/Store.lean ====
section
/-! DEFINITION. Reading and writing a sparse store, and its one canonical form: indexes strictly rising, and no entry
equal to what an unlisted index reads as, so that equal contents are equal lists. -/

namespace Sys2Proof.Machine.Store

/-- The entry at an index. -/
def get {w : Nat} : Store w → Nat → BitVec w
  | [], _ => Config.fill w
  | (k, v) :: rest, i => if k = i then v else get rest i

/-- The store without an index. -/
def erase {w : Nat} : Store w → Nat → Store w
  | [], _ => []
  | (k, v) :: rest, i => if k = i then erase rest i else (k, v) :: erase rest i

/-- Puts a cell before the first larger index. -/
def insert {w : Nat} : Store w → Nat → BitVec w → Store w
  | [], i, v => [(i, v)]
  | (k, x) :: rest, i, v => if i < k then (i, v) :: (k, x) :: rest else (k, x) :: insert rest i v

/-- Stores an entry. One that equals `Config.fill` is not listed. -/
def set {w : Nat} (m : Store w) (i : Nat) (v : BitVec w) : Store w :=
  if v = Config.fill w then erase m i else insert (erase m i) i v

/-- Every index of the store is at least `lo`, the indexes rise, and no entry is `Config.fill`. -/
def wfFrom {w : Nat} (lo : Nat) : Store w → Bool
  | [] => true
  | (k, v) :: rest => decide (lo ≤ k) && decide (v ≠ Config.fill w) && wfFrom (k + 1) rest

/-- The canonical form. -/
def wf {w : Nat} (m : Store w) : Bool := wfFrom 0 m

/-- Every listed index is below `n`. -/
def below {w : Nat} (n : Nat) (m : Store w) : Bool := m.all fun c => decide (c.1 < n)

/-- A run of entries from index `i` on, in canonical form. -/
def ofRun {w : Nat} : Nat → List (BitVec w) → Store w
  | _, [] => []
  | i, v :: vs => if v = Config.fill w then ofRun (i + 1) vs else (i, v) :: ofRun (i + 1) vs

/-- Replaces the entries from index `i` on by the run `vs`. -/
def setRun {w : Nat} (m : Store w) (i : Nat) (vs : List (BitVec w)) : Store w :=
  m.filter (fun c => decide (c.1 < i)) ++ ofRun i vs ++ m.filter (fun c => decide (i + vs.length ≤ c.1))

/-- Replaces the `n` entries from index `i` on by what `f` gives for their indexes. -/
@[irreducible] def fillRun {w : Nat} (m : Store w) (i n : Nat) (f : Nat → BitVec w) : Store w :=
  setRun m i ((List.range n).map fun k => f (i + k))

end Sys2Proof.Machine.Store

namespace Sys2Proof.Machine.Memory

/-- The canonical form of a memory. -/
def wf (m : Memory) : Bool := Store.wf m

end Sys2Proof.Machine.Memory
end

