-- ==== Sys2Proof/Machine/Cartridge.lean ====
section
/-! DEFINITION. The cartridge and its bank controllers (20_memory.md rules R73, R75, R90 to R101), and building a machine
from a ROM image (rules R90 to R93, R425). -/

namespace Sys2Proof.Machine

namespace Cartridge

/-! ### ROM -/

/-- The effective bank of the half that an address in 0x0000-0x7FFF lies in (rules R94, R96 to R98, R100). -/
def romBank (c : Cartridge) (a : Addr) : Nat :=
  let high := decide (0x4000 ≤ a.toNat)
  match c.mbc with
  | .none => if high then 1 else 0
  | .mbc1 m =>
    if high then m.ramBank.toNat * 32 + m.romBank.toNat
    else if m.mode = .ram then m.ramBank.toNat * 32
    else 0
  | .mbc2 m => if high then m.romBank.toNat else 0
  | .mbc3 m => if high then m.romBank.toNat else 0
  | .mbc5 m => if high then m.romBank.toNat else 0

/-- The index into the image that an address in 0x0000-0x7FFF reaches (rules R73, R101). -/
def romIndex (c : Cartridge) (a : Addr) : Nat := (c.romBank a * 0x4000 + a.toNat % 0x4000) % c.romLen

/-- A read of 0x0000-0x7FFF (rule R73). -/
def readRom (c : Cartridge) (a : Addr) : Byte := Store.get c.rom (c.romIndex a)

/-! ### Bank registers -/

/-- The RAM-enable test: "lower nibble == 0xA enables external RAM, else disables" (rules R95, R97, R98, R100; conflict
C5). -/
def enables (v : Byte) : Bool := decide (v.extractLsb' 0 4 = 0xA#4)

/-- A write of v to 0x0000-0x7FFF on MBC1 (rule R95). -/
def writeMbc1 (m : Mbc1) (a : Addr) (v : Byte) : Mbc1 :=
  if a.toNat < 0x2000 then { m with ramEnable := enables v }
  else if a.toNat < 0x4000 then
    { m with romBank := if v.extractLsb' 0 5 = 0 then 1 else v.extractLsb' 0 5 }
  else if a.toNat < 0x6000 then { m with ramBank := v.extractLsb' 0 2 }
  else { m with mode := if v.getLsbD 0 then .ram else .rom }

/-- A write of v to 0x0000-0x7FFF on MBC2 (rule R97): address bit 8 tells the ROM bank from the RAM enable. -/
def writeMbc2 (m : Mbc2) (a : Addr) (v : Byte) : Mbc2 :=
  if a.toNat < 0x4000 then
    if a.getLsbD 8 then { m with romBank := if v.extractLsb' 0 4 = 0 then 1 else v.extractLsb' 0 4 }
    else { m with ramEnable := enables v }
  else m

/-- The latch of rule R99: a write of 0x01 after a write of 0x00 copies the live clock. -/
def latchRtc (m : Mbc3) (v : Byte) : Mbc3 :=
  { m with
    rtcLatched := if m.rtcLatch = 0x00 ∧ v = 0x01 then m.rtcLive else m.rtcLatched
    rtcLatch := v }

/-- A write of v to 0x0000-0x7FFF on MBC3 (rules R98, R99). -/
def writeMbc3 (m : Mbc3) (a : Addr) (v : Byte) : Mbc3 :=
  if a.toNat < 0x2000 then { m with ramEnable := enables v }
  else if a.toNat < 0x4000 then
    { m with romBank := if v.extractLsb' 0 7 = 0 then 1 else v.extractLsb' 0 7 }
  else if a.toNat < 0x6000 then { m with ramBank := v }
  else latchRtc m v

/-- A write of v to 0x0000-0x7FFF on MBC5 (rule R100). On a rumble cartridge bit 3 drives the motor. -/
def writeMbc5 (rumbleCart : Bool) (m : Mbc5) (a : Addr) (v : Byte) : Mbc5 :=
  if a.toNat < 0x2000 then { m with ramEnable := enables v }
  else if a.toNat < 0x3000 then { m with romBank := m.romBank.extractLsb' 8 1 ++ v }
  else if a.toNat < 0x4000 then { m with romBank := v.extractLsb' 0 1 ++ m.romBank.extractLsb' 0 8 }
  else if a.toNat < 0x6000 then
    if rumbleCart then { m with rumble := v.getLsbD 3, ramBank := 0#1 ++ v.extractLsb' 0 3 }
    else { m with ramBank := v.extractLsb' 0 4 }
  else m

/-- A write to 0x0000-0x7FFF (rules R94, R95, R97, R98, R100): "read-only from CPU; writes configure MBC". -/
def writeRegister (c : Cartridge) (a : Addr) (v : Byte) : Cartridge :=
  { c with
    mbc :=
      match c.mbc with
      | .none => .none
      | .mbc1 m => .mbc1 (writeMbc1 m a v)
      | .mbc2 m => .mbc2 (writeMbc2 m a v)
      | .mbc3 m => .mbc3 (writeMbc3 m a v)
      | .mbc5 m => .mbc5 (writeMbc5 c.rumbleCart m a v) }

/-! ### The window 0xA000-0xBFFF -/

/-- What an address of the window 0xA000-0xBFFF reaches. -/
inductive Target where
  /-- Nothing: reads 0xFF, ignores writes (rule R75). -/
  | nothing
  /-- The byte of ExtRAM at an index. -/
  | ram (i : Nat)
  /-- The MBC2 half-byte at an index (rule R97). -/
  | nibble (i : Nat)
  /-- The MBC3 clock register that `ramBank` selects (rule R99). -/
  | rtc (sel : Byte)
  deriving DecidableEq, Repr

/-- The target of an address in 0xA000-0xBFFF (rules R75, R94, R96 to R101). A cartridge without external RAM has no
target (log 14). -/
def window (c : Cartridge) (a : Addr) : Target :=
  let off := a.toNat % 0x2000
  if c.extRamLen = 0 then .nothing
  else
    match c.mbc with
    | .none => .ram (off % c.extRamLen)
    | .mbc1 m =>
      if !m.ramEnable then .nothing
      else .ram (((if m.mode = .ram then m.ramBank.toNat else 0) * 0x2000 + off) % c.extRamLen)
    | .mbc2 m => if !m.ramEnable then .nothing else .nibble (off % 0x200)
    | .mbc3 m =>
      if !m.ramEnable then .nothing
      else if m.ramBank.toNat < 4 then .ram ((m.ramBank.toNat * 0x2000 + off) % c.extRamLen)
      else if 0x08 ≤ m.ramBank.toNat ∧ m.ramBank.toNat ≤ 0x0C then .rtc m.ramBank
      else .nothing
    | .mbc5 m => if !m.ramEnable then .nothing else .ram ((m.ramBank.toNat * 0x2000 + off) % c.extRamLen)

/-- A clock register by its number 0x08..0x0C (rule R99). -/
def getRtc (r : RtcRegs) (sel : Byte) : Byte :=
  match sel.toNat with
  | 0x08 => r.s
  | 0x09 => r.m
  | 0x0A => r.h
  | 0x0B => r.dl
  | _ => r.dh

/-- Writes a clock register by its number (rule R99). -/
def setRtc (r : RtcRegs) (sel v : Byte) : RtcRegs :=
  match sel.toNat with
  | 0x08 => { r with s := v }
  | 0x09 => { r with m := v }
  | 0x0A => { r with h := v }
  | 0x0B => { r with dl := v }
  | _ => { r with dh := v }

/-- A read of 0xA000-0xBFFF (rule R75). Clock reads return the latched register (rule R99). -/
def readRam (c : Cartridge) (a : Addr) : Byte :=
  match c.window a with
  | .nothing => 0xFF
  | .ram i => Store.get c.extRam i
  | .nibble i => Store.get c.extRam i &&& 0x0F
  | .rtc sel =>
    match c.mbc with
    | .mbc3 m => getRtc m.rtcLatched sel
    | _ => 0xFF

/-- A write to 0xA000-0xBFFF (rule R75). A write to a clock register sets its live and its latched value (rule R99). -/
def writeRam (c : Cartridge) (a : Addr) (v : Byte) : Cartridge :=
  match c.window a with
  | .nothing => c
  | .ram i => { c with extRam := Store.set c.extRam i v }
  | .nibble i => { c with extRam := Store.set c.extRam i (v &&& 0x0F) }
  | .rtc sel =>
    match c.mbc with
    | .mbc3 m =>
      { c with mbc := .mbc3 { m with rtcLive := setRtc m.rtcLive sel v, rtcLatched := setRtc m.rtcLatched sel v } }
    | _ => c

/-- The live MBC3 clock has advanced by the end of a step (`RTC_TICK`, rule R99; log 9). -/
def tickRtc (c : Cartridge) (draw : Nat) : Cartridge :=
  match c.mbc with
  | .mbc3 m => { c with mbc := .mbc3 { m with rtcLive := Config.rtcTick draw m.rtcLive } }
  | _ => c

/-! ### Construction -/

/-- The kinds of rule R52. -/
inductive Kind where
  | none | mbc1 | mbc2 | mbc3 | mbc5
  deriving DecidableEq, Repr

/-- A row of the type table of rule R92. Battery and clock have no effect in scope (R92; log 15). -/
structure TypeRow where
  kind : Kind
  ram : Bool
  battery : Bool
  rtc : Bool
  rumble : Bool
  deriving DecidableEq, Repr

/-- The type table of rule R92; `none` is an unsupported type. -/
def typeRow (code : Byte) : Option TypeRow :=
  match code.toNat with
  | 0x00 => some ⟨.none, false, false, false, false⟩
  | 0x01 => some ⟨.mbc1, false, false, false, false⟩
  | 0x02 => some ⟨.mbc1, true, false, false, false⟩
  | 0x03 => some ⟨.mbc1, true, true, false, false⟩
  | 0x05 => some ⟨.mbc2, true, false, false, false⟩
  | 0x06 => some ⟨.mbc2, true, true, false, false⟩
  | 0x08 => some ⟨.none, true, false, false, false⟩
  | 0x09 => some ⟨.none, true, true, false, false⟩
  | 0x0F => some ⟨.mbc3, false, true, true, false⟩
  | 0x10 => some ⟨.mbc3, true, true, true, false⟩
  | 0x11 => some ⟨.mbc3, false, false, false, false⟩
  | 0x12 => some ⟨.mbc3, true, false, false, false⟩
  | 0x13 => some ⟨.mbc3, true, true, false, false⟩
  | 0x19 => some ⟨.mbc5, false, false, false, false⟩
  | 0x1A => some ⟨.mbc5, true, false, false, false⟩
  | 0x1B => some ⟨.mbc5, true, true, false, false⟩
  | 0x1C => some ⟨.mbc5, false, false, false, true⟩
  | 0x1D => some ⟨.mbc5, true, false, false, true⟩
  | 0x1E => some ⟨.mbc5, true, true, false, true⟩
  | _ => none

/-- The image length that a ROM-size code announces (rule R90). -/
def romLenOfCode (code : Byte) : Nat :=
  match code.toNat with
  | 0x52 => 72 * 0x4000
  | 0x53 => 80 * 0x4000
  | 0x54 => 96 * 0x4000
  | n => 0x8000 * 2 ^ n

/-- The external RAM size of a RAM-size code (rule R93), in bytes; the rule lists no other code (log 16). -/
def ramLenOfCode (code : Byte) : Option Nat :=
  match code.toNat with
  | 0 => some 0
  | 1 => some 0x800
  | 2 => some 0x2000
  | 3 => some 0x8000
  | 4 => some 0x20000
  | 5 => some 0x10000
  | _ => none

/-- The bank registers of a kind at reset (rules R52, R425). The MBC3 clock is unspecified there: the argument of the
construction gives it (log 18). -/
def initialMbc (power : PowerOn) : Kind → Mbc
  | .none => .none
  | .mbc1 => .mbc1 { romBank := 1, ramBank := 0, ramEnable := false, mode := .rom }
  | .mbc2 => .mbc2 { romBank := 1, ramEnable := false }
  | .mbc3 => .mbc3
      { romBank := 1, ramBank := 0, ramEnable := false,
        rtcLive := power.rtcLive, rtcLatched := power.rtcLatched, rtcLatch := 0xFF }
  | .mbc5 => .mbc5 { romBank := 1, ramBank := 0, ramEnable := false, rumble := false }

/-- The external RAM length of a type row (rules R92, R93): MBC2 has 512 half-bytes whatever the code says, a type
without RAM has none. -/
def extRamLenOf (row : TypeRow) (code : Byte) : Option Nat :=
  if row.kind = .mbc2 then some 0x200
  else if row.ram then ramLenOfCode code
  else some 0

/-- External RAM of `n` bytes at power-on (rules R52, R424): any contents; on MBC2 half-bytes (rule R97). -/
def initialRam (power : PowerOn) (kind : Kind) (n : Nat) : Memory :=
  Store.fillRun [] 0 n fun i => if kind = .mbc2 then power.extRam i &&& 0x0F else power.extRam i

/-- The cartridge of a ROM image at reset (rules R52, R425), with external RAM of `ramLen` bytes. -/
def initial (power : PowerOn) (rom : Memory) (len : Nat) (row : TypeRow) (ramLen : Nat) : Cartridge where
  rom := rom
  romLen := len
  extRam := initialRam power row.kind ramLen
  extRamLen := ramLen
  rumbleCart := row.rumble
  mbc := initialMbc power row.kind

end Cartridge

/-- VRAM, WRAM, OAM and HRAM at power-on (rules R51, R424): any contents. -/
def Memory.initial (power : PowerOn) : Memory :=
  let vram := Store.fillRun [] 0x8000 0x2000 power.ram
  let wram := Store.fillRun vram 0xC000 0x2000 power.ram
  let oam := Store.fillRun wram 0xFE00 160 power.ram
  Store.fillRun oam 0xFF80 127 power.ram

/-- Builds the machine for a ROM image of `len` bytes, in its reset state (rules R90 to R93, R420, R424, R425), or says
why no machine exists for it. The contents of RAM are an argument: `RESET_MEM`, any value (rules R51, R52). Which
refusal is reported for an image with several defects is open in the spec; DESIGN CHOICE: the length is tested first,
and a bad one answers `invalidRomSize` whatever the header holds (log 22). -/
def State.construct (rom : Memory) (len : Nat) (power : PowerOn) : Result :=
  if len % 0x4000 ≠ 0 ∨ len < 0x8000 then .fault .invalidRomSize
  else if len ≠ Cartridge.romLenOfCode (Store.get rom 0x148) then .fault .unsupportedCartridge
  else
    match Cartridge.typeRow (Store.get rom 0x147) with
    | none => .fault .unsupportedCartridge
    | some row =>
      match Cartridge.extRamLenOf row (Store.get rom 0x149) with
      | none => .fault .unsupportedCartridge
      | some ramLen => .next (State.resetWith (.initial power rom len row ramLen) (.initial power))

end Sys2Proof.Machine
end

