-- ==== Sys2Proof/Machine/Flags.lean ====
section
/-! DEFINITION. The flag computations (10_state.md rule R26) with the results they go with: the 8-bit operations of
42_alu8.md, the 16-bit additions of 43_alu16.md, the rotates and shifts of 44_rotate_shift_bit.md. Sums and differences
are exact natural numbers, narrowed at the end (00_scope.md rule R9). -/

namespace Sys2Proof.Machine

/-- F as a byte (rule R22): Z, N, H, CY in bits 7 to 4, bits 3 to 0 zero. -/
def Flags.toByte (f : Flags) : Byte :=
  BitVec.ofBool f.z ++ BitVec.ofBool f.n ++ BitVec.ofBool f.h ++ BitVec.ofBool f.cy ++ 0#4

/-- What writing a byte to F stores (rules R22, R197): the upper nibble. -/
def Flags.ofByte (v : Byte) : Flags where
  z := v.getLsbD 7
  n := v.getLsbD 6
  h := v.getLsbD 5
  cy := v.getLsbD 4

/-- `v[3:0]` as a number. -/
def lowNibble (v : Byte) : Nat := v.toNat % 16

/-- A one-bit value as a number. -/
def bitValue (b : Bool) : Nat := if b then 1 else 0

/-- ADD and ADC: rules R211, R212, with the carry in `c`. -/
def addFlags (a s : Byte) (c : Bool) : Byte × Flags :=
  let sum := a.toNat + s.toNat + bitValue c
  (BitVec.ofNat 8 sum,
    { z := decide (sum % 256 = 0)
      n := false
      h := decide (lowNibble a + lowNibble s + bitValue c > 0x0F)
      cy := decide (sum > 0xFF) })

/-- SUB, SBC and CP: rules R213, R214, R218, with the borrow in `c`. -/
def subFlags (a s : Byte) (c : Bool) : Byte × Flags :=
  let r := BitVec.ofNat 8 (a.toNat + 512 - (s.toNat + bitValue c))
  (r,
    { z := decide (r = 0)
      n := true
      h := decide (lowNibble a < lowNibble s + bitValue c)
      cy := decide (a.toNat < s.toNat + bitValue c) })

/-- AND, XOR, OR: the result's Z, N = 0, the given H, CY = 0 (rules R215 to R217). -/
def logicFlags (r : Byte) (h : Bool) : Byte × Flags :=
  (r, { z := decide (r = 0), n := false, h := h, cy := false })

/-- `alu[y] A,s` (rules R211 to R218): the new A and the new flags. CP leaves A. -/
def aluFlags (op : AluOp) (a s : Byte) (f : Flags) : Byte × Flags :=
  match op with
  | .add => addFlags a s false
  | .adc => addFlags a s f.cy
  | .sub => subFlags a s false
  | .sbc => subFlags a s f.cy
  | .and => logicFlags (a &&& s) true
  | .xor => logicFlags (a ^^^ s) false
  | .or => logicFlags (a ||| s) false
  | .cp => (a, (subFlags a s false).2)

/-- INC (rules R219, R220): CY is unchanged. -/
def incFlags (v : Byte) (f : Flags) : Byte × Flags :=
  (v + 1, { z := decide (v + 1 = 0), n := false, h := decide (lowNibble v = 0x0F), cy := f.cy })

/-- DEC (rules R221, R222): CY is unchanged. -/
def decFlags (v : Byte) (f : Flags) : Byte × Flags :=
  (v - 1, { z := decide (v - 1 = 0), n := true, h := decide (lowNibble v = 0x00), cy := f.cy })

/-- DAA (rule R223). Both tests of the N = 0 arm use A before any adjustment. -/
def daaFlags (a : Byte) (f : Flags) : Byte × Flags :=
  let low : Bool := f.h || (!f.n && decide (lowNibble a > 0x09))
  let high : Bool := f.cy || (!f.n && decide (a.toNat > 0x99))
  let adj : Byte := (if low then 0x06 else 0x00) + (if high then 0x60 else 0x00)
  let r := if f.n then a - adj else a + adj
  (r, { z := decide (r = 0), n := f.n, h := false, cy := high })

/-- CPL (rule R224): Z and CY are unchanged. -/
def cplFlags (a : Byte) (f : Flags) : Byte × Flags :=
  (~~~a, { f with n := true, h := true })

/-- SCF (rule R225): Z is unchanged. -/
def scfFlags (f : Flags) : Flags := { f with n := false, h := false, cy := true }

/-- CCF (rule R226): Z is unchanged. -/
def ccfFlags (f : Flags) : Flags := { f with n := false, h := false, cy := !f.cy }

/-- ADD HL,rr (rule R240): carries out of bits 11 and 15; Z is unchanged. -/
def addHlFlags (hl v : Addr) (f : Flags) : Addr × Flags :=
  (hl + v,
    { z := f.z
      n := false
      h := decide (hl.toNat % 4096 + v.toNat % 4096 > 0x0FFF)
      cy := decide (hl.toNat + v.toNat > 0xFFFF) })

/-- SP + e8 for ADD SP,e8 and LD HL,SP+e8 (rules R193, R243): H and CY from the unsigned addition of SP's low byte and
the raw byte e. -/
def spOffsetFlags (sp : Addr) (e : Byte) : Addr × Flags :=
  (sp + sext16 e,
    { z := false
      n := false
      h := decide (sp.toNat % 16 + lowNibble e > 0x0F)
      cy := decide (sp.toNat % 256 + e.toNat > 0xFF) })

/-- A byte that holds one bit, in the place `i`. -/
def bitAt (i : Nat) (b : Bool) : Byte := if b then 1#8 <<< i else 0

/-- The eight rotates and shifts (rules R254 to R261): the value written back and the bit shifted out, which for SWAP
is 0. -/
def shiftBits (op : RotOp) (v : Byte) (cy : Bool) : Byte × Bool :=
  match op with
  | .rlc => (v <<< 1 ||| bitAt 0 (v.getLsbD 7), v.getLsbD 7)
  | .rrc => (v >>> 1 ||| bitAt 7 (v.getLsbD 0), v.getLsbD 0)
  | .rl => (v <<< 1 ||| bitAt 0 cy, v.getLsbD 7)
  | .rr => (v >>> 1 ||| bitAt 7 cy, v.getLsbD 0)
  | .sla => (v <<< 1, v.getLsbD 7)
  | .sra => (v >>> 1 ||| v &&& 0x80, v.getLsbD 0)
  | .swap => (v <<< 4 ||| v >>> 4, false)
  | .srl => (v >>> 1, v.getLsbD 0)

/-- The CB rotates and shifts: "CB-prefix rotates set Z normally". -/
def rotFlags (op : RotOp) (v : Byte) (f : Flags) : Byte × Flags :=
  let r := shiftBits op v f.cy
  (r.1, { z := decide (r.1 = 0), n := false, h := false, cy := r.2 })

/-- RLCA, RRCA, RLA, RRA (rules R250 to R253): "clear Z (even when result is zero)". -/
def rotAFlags (op : RotOp) (v : Byte) (f : Flags) : Byte × Flags :=
  let r := shiftBits op v f.cy
  (r.1, { z := false, n := false, h := false, cy := r.2 })

/-- BIT (rule R262): CY is unchanged. -/
def bitFlags (b : Fin 8) (v : Byte) (f : Flags) : Flags :=
  { z := !v.getLsbD b, n := false, h := true, cy := f.cy }

end Sys2Proof.Machine

namespace Sys2Proof

/-- The conditions of rule R290. -/
def Cond.holds (cc : Cond) (f : Machine.Flags) : Bool :=
  match cc with
  | .nz => !f.z
  | .z => f.z
  | .nc => !f.cy
  | .c => f.cy

end Sys2Proof
end

