-- ==== Sys2Proof/Machine/Timer.lean ====
section
/-! DEFINITION. The timer (60_exceptions.md rules R360 to R365). A tick answers the timer and the bits of IF it
requests. -/

namespace Sys2Proof.Machine

/-- The bit number of a source in IF and IE (rules R34, R340). -/
def IrqSource.id : IrqSource → Nat
  | .vblank => 0
  | .stat => 1
  | .timer => 2
  | .serial => 3
  | .joypad => 4

/-- `1 << id` as bits of IF. -/
def IrqSource.mask (q : IrqSource) : BitVec 5 := 1#5 <<< q.id

namespace Timer

/-- `Period(tac[1:0])` of rule R361, in T-cycles. -/
def period (t : Timer) : Nat :=
  match t.tac.toNat % 4 with
  | 0 => 1024
  | 1 => 16
  | 2 => 64
  | _ => 256

/-- TAC bit 2 (rule R39). -/
def enabled (t : Timer) : Bool := t.tac.getLsbD 2

/-- The pending reload counts down, and at its end TIMA takes TMA (rule R363). -/
def countReload (t : Timer) : Timer :=
  if t.reload = 0 then t
  else if t.reload = 1 then { t with reload := 0, tima := t.tma }
  else { t with reload := t.reload - 1 }

/-- TIMA steps, and past 0xFF becomes 0 with a reload due in 4 T-cycles (rules R361, R363). -/
def stepTima (t : Timer) : Timer :=
  if t.tima = 0xFF then { t with tima := 0x00, reload := 4 } else { t with tima := t.tima + 1 }

/-- `div` counts, and where it becomes a multiple of the period an enabled TIMA steps (rules R361, R362). -/
def countDiv (t : Timer) : Timer :=
  let t' := { t with div := t.div + 1 }
  if t'.enabled && decide (t'.div.toNat % t'.period = 0) then t'.stepTima else t'

/-- `TimerTick` of rule R361. -/
def tick (t : Timer) : Timer × BitVec 5 :=
  (t.countReload.countDiv, if t.reload = 1 then IrqSource.timer.mask else 0)

/-- What a read of TIMA returns: 0 while a reload is pending (rules R37, R363). -/
def readTima (t : Timer) : Byte := if t.reload > 0 then 0x00 else t.tima

/-- A CPU write to TIMA, which cancels a pending reload and its request (rule R364). -/
def writeTima (t : Timer) (v : Byte) : Timer := { t with tima := v, reload := 0 }

/-- A CPU write to DIV of any value (rules R36, R365). -/
def writeDiv (t : Timer) : Timer := { t with div := 0 }

end Timer

end Sys2Proof.Machine
end

