-- ==== Sys2Proof/Machine/Ppu.lean ====
section
/-! DEFINITION. The PPU (60_exceptions.md rules R370 to R386). An operation that may request interrupts answers the PPU
and the bits of IF it requests. VRAM and OAM are read directly from memory, not through the bus (rule R385). -/

namespace Sys2Proof.Machine

/-- The number of a mode (rule R49). -/
def PpuMode.number : PpuMode → Nat
  | .hblank => 0
  | .vblank => 1
  | .oamScan => 2
  | .draw => 3

namespace Ppu

/-- LCDC[7] (rule R41). -/
def lcdOn (p : Ppu) : Bool := p.lcdc.getLsbD 7

/-- The request of `RequestInterrupt(1)` if `c`, as bits of IF. -/
def statIf (c : Bool) : BitVec 5 := if c then IrqSource.stat.mask else 0

/-- What a read of STAT returns (rule R42): `0x80 | stat_en[6:3] | lyc_flag << 2 | mode`. -/
def readStat (p : Ppu) : Byte :=
  1#1 ++ p.statEn ++ BitVec.ofBool p.lycFlag ++ BitVec.ofNat 2 p.mode.number

/-- `EnterMode(m)` of rule R375. Mode 3 has no interrupt source (rule R372). -/
def enterMode (p : Ppu) (m : PpuMode) : Ppu × BitVec 5 :=
  ({ p with mode := m }, statIf (decide (m ≠ .draw) && p.statEn.getLsbD m.number))

/-- `LycCompare()` of rule R376. -/
def lycCompare (p : Ppu) : Ppu × BitVec 5 :=
  let new := decide (p.ly = p.lyc.toNat)
  ({ p with lycFlag := new }, statIf (new && !p.lycFlag && p.statEn.getLsbD 3))

/-! ### Rendering -/

/-- `TilePixel` of rule R385: the colour index 0..3. -/
def tilePixel (mem : Memory) (t : Byte) (col row : Nat) (unsignedMode : Bool) : Nat :=
  let base :=
    if unsignedMode then 0x8000 + 16 * t.toNat
    else if t.toNat < 128 then 0x9000 + 16 * t.toNat
    else 0x8800 + 16 * (t.toNat - 128)
  let lo := Store.get mem (base + 2 * row)
  let hi := Store.get mem (base + 2 * row + 1)
  (if hi.getLsbD (7 - col) then 2 else 0) + (if lo.getLsbD (7 - col) then 1 else 0)

/-- The colour index at a point of a tile map (rules R381, R382): the map is the second one if `second`. -/
def mapPixel (p : Ppu) (mem : Memory) (second : Bool) (px py : Nat) : Nat :=
  let map := if second then 0x9C00 else 0x9800
  let t := Store.get mem (map + 32 * (py / 8) + px / 8)
  tilePixel mem t (px % 8) (py % 8) (p.lcdc.getLsbD 4)

/-- Whether the window covers pixel x of line y (rule R382). -/
def windowCovers (p : Ppu) (x y : Nat) : Bool :=
  p.lcdc.getLsbD 0 && p.lcdc.getLsbD 5 && decide (p.wy.toNat ≤ y) && decide (p.wx.toNat ≤ 166) &&
    decide (x + 7 ≥ p.wx.toNat)

/-- The background or window colour index `bg` of a pixel (rules R381, R382). -/
def backgroundPixel (p : Ppu) (mem : Memory) (x y : Nat) : Nat :=
  if !p.lcdc.getLsbD 0 then 0
  else if p.windowCovers x y then
    p.mapPixel mem (p.lcdc.getLsbD 6) (x + 7 - p.wx.toNat) (y - p.wy.toNat)
  else
    p.mapPixel mem (p.lcdc.getLsbD 3) ((x + p.scx.toNat) % 256) ((y + p.scy.toNat) % 256)

/-- An OAM entry (rule R383). -/
structure Sprite where
  y : Byte
  x : Byte
  tile : Byte
  attr : Byte
  deriving DecidableEq, Repr

/-- The OAM entry i (rule R383). -/
def oamEntry (mem : Memory) (i : Nat) : Sprite where
  y := Store.get mem (0xFE00 + 4 * i)
  x := Store.get mem (0xFE00 + 4 * i + 1)
  tile := Store.get mem (0xFE00 + 4 * i + 2)
  attr := Store.get mem (0xFE00 + 4 * i + 3)

/-- The height of a sprite: 16 if LCDC[2], else 8 (rule R383). -/
def spriteHeight (p : Ppu) : Nat := if p.lcdc.getLsbD 2 then 16 else 8

/-- Whether a sprite is on line y (rule R383). -/
def spriteOnLine (p : Ppu) (y : Nat) (o : Sprite) : Bool :=
  decide (o.y.toNat ≤ y + 16) && decide (y + 16 < o.y.toNat + p.spriteHeight)

/-- Puts a sprite before the first with a larger X, so that equal X keeps the order of insertion. -/
def insertByX (o : Sprite) : List Sprite → List Sprite
  | [] => [o]
  | q :: rest => if o.x.toNat < q.x.toNat then o :: q :: rest else q :: insertByX o rest

/-- The sprites of line y in the order in which they are tried (rule R383): the first ten on the line in OAM order,
sorted by ascending X, ties by ascending index. -/
def lineSprites (p : Ppu) (mem : Memory) (y : Nat) : List Sprite :=
  if !p.lcdc.getLsbD 1 then []
  else
    (((List.range 40).map (oamEntry mem)).filter (p.spriteOnLine y)).take 10
      |>.foldl (fun acc o => insertByX o acc) []

/-- Whether a sprite covers pixel x (rule R384). -/
def spriteCovers (x : Nat) (o : Sprite) : Bool :=
  decide (o.x.toNat ≤ x + 8) && decide (x + 8 < o.x.toNat + 8)

/-- The colour index of a sprite at a pixel it covers (rule R384). -/
def spritePixel (p : Ppu) (mem : Memory) (x y : Nat) (o : Sprite) : Nat :=
  let h := p.spriteHeight
  let row0 := y + 16 - o.y.toNat
  let row := if o.attr.getLsbD 6 then h - 1 - row0 else row0
  let col0 := x + 8 - o.x.toNat
  let col := if o.attr.getLsbD 5 then 7 - col0 else col0
  let tile := if h = 8 then o.tile else (o.tile &&& 0xFE) + BitVec.ofNat 8 (row / 8)
  tilePixel mem tile col (row % 8) true

/-- The winning sprite pixel (rule R384): the first sprite in order that covers x with a colour index other than 0. -/
def winningSprite (p : Ppu) (mem : Memory) (x y : Nat) : List Sprite → Option (Sprite × Nat)
  | [] => none
  | o :: rest =>
    if spriteCovers x o && decide (p.spritePixel mem x y o ≠ 0) then some (o, p.spritePixel mem x y o)
    else p.winningSprite mem x y rest

/-- `reg[2c+1 : 2c]` of rules R47 and R386. -/
def shade (palette : Byte) (c : Nat) : BitVec 2 := palette.extractLsb' (2 * c) 2

/-- The shade stored for pixel x of line y (rules R384, R386). -/
def pixel (p : Ppu) (mem : Memory) (sprites : List Sprite) (x y : Nat) : BitVec 2 :=
  let bg := p.backgroundPixel mem x y
  match p.winningSprite mem x y sprites with
  | none => shade p.bgp bg
  | some (o, c) =>
    if o.attr.getLsbD 7 && decide (bg ≠ 0) then shade p.bgp bg
    else shade (if o.attr.getLsbD 4 then p.obp1 else p.obp0) c

/-- `RenderLine(y)` of rule R380: the 160 entries of line y. -/
def renderLine (p : Ppu) (mem : Memory) (y : Nat) : Ppu :=
  let sprites := p.lineSprites mem y
  let line := (List.range 160).map fun x => p.pixel mem sprites x y
  { p with framebuffer := Store.setRun p.framebuffer (160 * y) line }

/-! ### The scanline state machine -/

/-- The events inside a visible line (rules R371, R372): mode 3 at dot 80; the rendering and mode 0 at dot 252. -/
def lineEvent (p : Ppu) (mem : Memory) : Ppu × BitVec 5 :=
  if p.ly < 144 then
    if p.dots = 80 then ({ p with mode := .draw }, 0)
    else if p.dots = 252 then (p.renderLine mem p.ly).enterMode .hblank
    else (p, 0)
  else (p, 0)

/-- The mode entered when `ly` has just stepped (rules R371, R373, R374). -/
def lineStart (p : Ppu) : Ppu × BitVec 5 :=
  if p.ly = 144 then
    let r := p.enterMode .vblank
    (r.1, r.2 ||| IrqSource.vblank.mask)
  else if p.ly < 144 then p.enterMode .oamScan
  else (p, 0)

/-- The end of a line (rules R371, R373): `ly` steps, is compared, and the next line starts. -/
def lineEnd (p : Ppu) : Ppu × BitVec 5 :=
  if p.dots = 456 then
    let r1 := ({ p with dots := 0, ly := (p.ly + 1) % 154 } : Ppu).lycCompare
    let r2 := r1.1.lineStart
    (r2.1, r1.2 ||| r2.2)
  else (p, 0)

/-- `PpuDot` of rule R371. -/
def dot (p : Ppu) (mem : Memory) : Ppu × BitVec 5 :=
  if !p.lcdOn then (p, 0)
  else
    let r1 := ({ p with dots := p.dots + 1 } : Ppu).lineEvent mem
    let r2 := r1.1.lineEnd
    (r2.1, r1.2 ||| r2.2)

/-! ### Register writes with side effects -/

/-- A CPU write to LCDC (rules R41, R378, R379). -/
def writeLcdc (p : Ppu) (v : Byte) : Ppu × BitVec 5 :=
  let p' := { p with lcdc := v }
  if p.lcdOn && !p'.lcdOn then ({ p' with ly := 0, mode := .hblank, dots := 0 }, 0)
  else if !p.lcdOn && p'.lcdOn then
    let r1 := ({ p' with ly := 0, dots := 0 } : Ppu).enterMode .oamScan
    let r2 := r1.1.lycCompare
    (r2.1, r1.2 ||| r2.2)
  else (p', 0)

/-- A CPU write to LYC (rules R45, R376): the comparison runs when the LCD is on. -/
def writeLyc (p : Ppu) (v : Byte) : Ppu × BitVec 5 :=
  let p' := { p with lyc := v }
  if p'.lcdOn then p'.lycCompare else (p', 0)

/-- A CPU write to STAT stores bits 6:3 (rule R42). -/
def writeStat (p : Ppu) (v : Byte) : Ppu := { p with statEn := v.extractLsb' 3 4 }

end Ppu

end Sys2Proof.Machine
end

