-- ==== Sys2Proof/Machine/Ops.lean ====
section
/-! DEFINITION. The named operations over memory and registers: register pairs (10_state.md rule R21), the bus
(20_memory.md rules R70 to R88), fetch and stack (00_scope.md rules R12, R13), interrupt requests, the interrupt
service sequence, the exception IllegalOpcode and the return from interrupt (60_exceptions.md rules R326, R341 to
R346), and the advance of the peripherals (R324, R361, R371). -/

namespace Sys2Proof.Machine

namespace State

/-! ### Register pairs (rule R21) -/

/-- F as a byte (rule R22). -/
def f (s : State) : Byte := s.cpu.flags.toByte

def af (s : State) : Addr := joinBytes s.cpu.a s.f
def bc (s : State) : Addr := joinBytes s.cpu.b s.cpu.c
def de (s : State) : Addr := joinBytes s.cpu.d s.cpu.e
def hl (s : State) : Addr := joinBytes s.cpu.h s.cpu.l

/-- `AF <- v`: F takes `v[7:0] & 0xF0` (rules R21, R22). -/
def setAf (s : State) (v : Addr) : State :=
  { s with cpu.a := hiByte v, cpu.flags := Flags.ofByte (loByte v) }

def setBc (s : State) (v : Addr) : State := { s with cpu.b := hiByte v, cpu.c := loByte v }
def setDe (s : State) (v : Addr) : State := { s with cpu.d := hiByte v, cpu.e := loByte v }
def setHl (s : State) (v : Addr) : State := { s with cpu.h := hiByte v, cpu.l := loByte v }

def setA (s : State) (v : Byte) : State := { s with cpu.a := v }
def setFlags (s : State) (f : Flags) : State := { s with cpu.flags := f }
def setSp (s : State) (v : Addr) : State := { s with cpu.sp := v }
def setPc (s : State) (v : Addr) : State := { s with cpu.pc := v }

/-- Records the T-cycles of the instruction (rules R15, R321). -/
def spend (s : State) (n : Nat) : State := { s with cycles := n }

/-! ### Interrupt requests (rule R341) -/

/-- Sets bits of IF. -/
def request (s : State) (mask : BitVec 5) : State := { s with irq.ifr := s.irq.ifr ||| mask }

/-- `IF & IE & 0x1F` (rules R320, R342). -/
def pending (s : State) : BitVec 5 := s.irq.ifr &&& s.irq.ie.extractLsb' 0 5

end State

/-! ### The address map -/

/-- The rows of the map of rule R72. -/
inductive Region where
  | rom | vram | extRam | wram | echo | oam | unusable | io | hram | ie
  deriving DecidableEq, Repr

/-- The row of rule R72 that an address lies in. -/
def region (a : Addr) : Region :=
  let n := a.toNat
  if n < 0x8000 then .rom
  else if n < 0xA000 then .vram
  else if n < 0xC000 then .extRam
  else if n < 0xE000 then .wram
  else if n < 0xFE00 then .echo
  else if n < 0xFEA0 then .oam
  else if n < 0xFF00 then .unusable
  else if n < 0xFF80 then .io
  else if n < 0xFFFF then .hram
  else .ie

/-- The registers of 0xFF00-0xFF7F (rules R33, R80). -/
inductive IoReg where
  | div | tima | tma | tac | ifr
  | lcdc | stat | scy | scx | ly | lyc | dma | bgp | obp0 | obp1 | wy | wx
  /-- Joypad, serial, APU: out of scope (rule R84). -/
  | external
  /-- Boot-ROM disable and the CGB registers: no state (rule R55). -/
  | inert
  /-- Routed nowhere (rule R80). -/
  | unrouted
  deriving DecidableEq, Repr

/-- The register at an address in 0xFF00-0xFF7F (rules R33, R80). -/
def ioReg (a : Addr) : IoReg :=
  match a.toNat % 0x100 with
  | 0x00 => .external
  | 0x01 => .external
  | 0x02 => .external
  | 0x04 => .div
  | 0x05 => .tima
  | 0x06 => .tma
  | 0x07 => .tac
  | 0x0F => .ifr
  | 0x40 => .lcdc
  | 0x41 => .stat
  | 0x42 => .scy
  | 0x43 => .scx
  | 0x44 => .ly
  | 0x45 => .lyc
  | 0x46 => .dma
  | 0x47 => .bgp
  | 0x48 => .obp0
  | 0x49 => .obp1
  | 0x4A => .wy
  | 0x4B => .wx
  | 0x4D => .inert
  | 0x4F => .inert
  | 0x50 => .inert
  | 0x51 => .inert
  | 0x52 => .inert
  | 0x53 => .inert
  | 0x54 => .inert
  | 0x55 => .inert
  | 0x68 => .inert
  | 0x69 => .inert
  | 0x6A => .inert
  | 0x6B => .inert
  | 0x70 => .inert
  | n => if 0x10 ≤ n ∧ n ≤ 0x3F then .external else .unrouted

/-- The key in `State.mem` of an address in VRAM, WRAM, OAM or HRAM: the address itself. Echo addresses have the key of
the WRAM byte they mirror (rule R72). -/
def memKey (a : Addr) : Nat :=
  match region a with
  | .echo => a.toNat - 0x2000
  | _ => a.toNat

namespace State

/-! ### The bus -/

/-- Whether rule R88 closes VRAM to the CPU now, `restrict` being PPU_ACCESS_RESTRICT. -/
def vramClosed (s : State) (restrict : Bool) : Bool :=
  restrict && s.ppu.lcdOn && decide (s.ppu.mode = .draw)

/-- Whether rule R88 closes OAM to the CPU now. -/
def oamClosed (s : State) (restrict : Bool) : Bool :=
  restrict && s.ppu.lcdOn && (decide (s.ppu.mode = .oamScan) || decide (s.ppu.mode = .draw))

/-- A read of an I/O register (rules R81 to R84, R55). -/
def readIo (s : State) (a : Addr) : Byte :=
  match ioReg a with
  | .div => hiByte s.timer.div
  | .tima => s.timer.readTima
  | .tma => s.timer.tma
  | .tac => 0b11111#5 ++ s.timer.tac
  | .ifr => 0b111#3 ++ s.irq.ifr
  | .lcdc => s.ppu.lcdc
  | .stat => s.ppu.readStat
  | .scy => s.ppu.scy
  | .scx => s.ppu.scx
  | .ly => BitVec.ofNat 8 s.ppu.ly
  | .lyc => s.ppu.lyc
  | .dma => s.ppu.dma
  | .bgp => s.ppu.bgp
  | .obp0 => s.ppu.obp0
  | .obp1 => s.ppu.obp1
  | .wy => s.ppu.wy
  | .wx => s.ppu.wx
  | .external => Config.ioExternalRead s.draws a
  | .inert => 0xFF
  | .unrouted => 0xFF

/-- A bus read, with or without the restriction of rule R88. -/
def readWith (restrict : Bool) (s : State) (a : Addr) : Byte :=
  match region a with
  | .rom => s.cart.readRom a
  | .vram => if s.vramClosed restrict then 0xFF else Store.get s.mem (memKey a)
  | .extRam => s.cart.readRam a
  | .wram => Store.get s.mem (memKey a)
  | .echo => Store.get s.mem (memKey a)
  | .oam => if s.oamClosed restrict then 0xFF else Store.get s.mem (memKey a)
  | .unusable => 0xFF
  | .io => s.readIo a
  | .hram => Store.get s.mem (memKey a)
  | .ie => s.irq.ie

/-- `MemRead(addr, 1)` (rule R70). It changes no state (rule R64). -/
def read (s : State) (a : Addr) : Byte := s.readWith s.params.ppuAccessRestrict a

/-- One byte of the OAM copy (rule R87), which no restriction applies to (rule R88; log 17). -/
def dmaByte (v : Byte) (s : State) (i : Nat) : State :=
  { s with mem := Store.set s.mem (0xFE00 + i) (s.readWith false (BitVec.ofNat 16 (v.toNat * 0x100 + i))) }

/-- A write of v to DMA (rule R87): v is stored, then 160 bytes are copied in ascending order (log 21). -/
def writeDma (s : State) (v : Byte) : State :=
  (List.range 160).foldl (dmaByte v) { s with ppu.dma := v }

/-- The PPU takes a register write, with the interrupts it requests. -/
def setPpu (s : State) (r : Ppu × BitVec 5) : State := { s with ppu := r.1, irq.ifr := s.irq.ifr ||| r.2 }

/-- A write to an I/O register (rules R81 to R84, R87, R55). An out-of-scope register takes no effect on the state
(`IoExternalWrite`, log 8). -/
def writeIo (s : State) (a : Addr) (v : Byte) : State :=
  match ioReg a with
  | .div => { s with timer := s.timer.writeDiv }
  | .tima => { s with timer := s.timer.writeTima v }
  | .tma => { s with timer.tma := v }
  | .tac => { s with timer.tac := v.extractLsb' 0 3 }
  | .ifr => { s with irq.ifr := v.extractLsb' 0 5 }
  | .lcdc => s.setPpu (s.ppu.writeLcdc v)
  | .stat => { s with ppu := s.ppu.writeStat v }
  | .scy => { s with ppu.scy := v }
  | .scx => { s with ppu.scx := v }
  | .ly => s
  | .lyc => s.setPpu (s.ppu.writeLyc v)
  | .dma => s.writeDma v
  | .bgp => { s with ppu.bgp := v }
  | .obp0 => { s with ppu.obp0 := v }
  | .obp1 => { s with ppu.obp1 := v }
  | .wy => { s with ppu.wy := v }
  | .wx => { s with ppu.wx := v }
  | .external => s
  | .inert => s
  | .unrouted => s

/-- Stores a byte of VRAM, WRAM, OAM or HRAM. -/
def setMem (s : State) (a : Addr) (v : Byte) : State := { s with mem := Store.set s.mem (memKey a) v }

/-- `MemWrite(addr, 1, v)` (rule R71). -/
def write (s : State) (a : Addr) (v : Byte) : State :=
  match region a with
  | .rom => { s with cart := s.cart.writeRegister a v }
  | .vram => if s.vramClosed s.params.ppuAccessRestrict then s else s.setMem a v
  | .extRam => { s with cart := s.cart.writeRam a v }
  | .wram => s.setMem a v
  | .echo => s.setMem a v
  | .oam => if s.oamClosed s.params.ppuAccessRestrict then s else s.setMem a v
  | .unusable => s
  | .io => s.writeIo a v
  | .hram => s.setMem a v
  | .ie => { s with irq.ie := v }

/-- `MemRead(addr, 2)` (rule R11): low byte first, the second address modulo 65536. -/
def readWord (s : State) (a : Addr) : Addr := joinBytes (s.read (a + 1)) (s.read a)

/-- `MemWrite(addr, 2, v)` (rule R11): the low byte at the lower address, then the high byte. -/
def writeWord (s : State) (a v : Addr) : State := (s.write a (loByte v)).write (a + 1) (hiByte v)

/-! ### Fetch and stack -/

/-- `Fetch8()` (rule R12). -/
def fetch8 (s : State) : Byte × State := (s.read s.cpu.pc, s.setPc (s.cpu.pc + 1))

/-- `FetchOpcode()` (rule R323): with the HALT bug waiting, PC is not advanced this once. -/
def fetchOpcode (s : State) : Byte × State :=
  if s.cpu.haltBug then (s.read s.cpu.pc, { s with cpu.haltBug := false })
  else s.fetch8

/-- `Push16(v)` (rule R13). -/
def push16 (s : State) (v : Addr) : State := (s.setSp (s.cpu.sp - 2)).writeWord (s.cpu.sp - 2) v

/-- `Pop16()` (rule R13). -/
def pop16 (s : State) : Addr × State := (s.readWord s.cpu.sp, s.setSp (s.cpu.sp + 2))

end State

/-! ### Exceptions and interrupts -/

/-- The vector of a source (rule R340): `0x0040 + 8 * id`. -/
def IrqSource.vector (q : IrqSource) : Addr := BitVec.ofNat 16 (0x40 + 8 * q.id)

/-- The source with the smallest id among pending bits that are not all 0 (rules R343, R344). -/
def firstPending (pend : BitVec 5) : IrqSource :=
  if pend.getLsbD 0 then .vblank
  else if pend.getLsbD 1 then .stat
  else if pend.getLsbD 2 then .timer
  else if pend.getLsbD 3 then .serial
  else .joypad

namespace State

/-- `raise IllegalOpcode(op)` (rule R326): the CPU locks. No vector, no handler, nothing recorded. -/
def raiseIllegalOpcode (s : State) : State := { s with cpu.lock := true }

/-- `ServiceInterrupt` for a chosen source (rule R343), 20 T-cycles (rule R321). PC is saved on the stack; the source was
chosen before the push. -/
def serviceInterrupt (s : State) (q : IrqSource) : State :=
  let s1 := { s with cpu.ime := false, cpu.imeEnableAfter := .none, cpu.halt := false, cpu.haltBug := false }
  let s2 := s1.push16 s1.cpu.pc
  let s3 := { s2 with irq.ifr := s2.irq.ifr &&& ~~~q.mask }
  (s3.setPc q.vector).spend 20

/-- The return from interrupt (rules R289, R346): PC is popped and IME is set at once. -/
def returnFromInterrupt (s : State) : State :=
  let r := s.pop16
  { r.2.setPc r.1 with cpu.ime := true }

/-! ### The peripherals -/

/-- One `TimerTick` with its request (rules R361, R363). -/
def timerTick (s : State) : State :=
  let r := s.timer.tick
  { s with timer := r.1, irq.ifr := s.irq.ifr ||| r.2 }

/-- `TimerAdvance(n)` (rule R361). -/
def timerAdvance : Nat → State → State
  | 0, s => s
  | n + 1, s => timerAdvance n s.timerTick

/-- One `PpuDot` with its requests (rule R371). -/
def ppuDot (s : State) : State := s.setPpu (s.ppu.dot s.mem)

/-- `PpuAdvance(n)` (rule R371). -/
def ppuAdvance : Nat → State → State
  | 0, s => s
  | n + 1, s => ppuAdvance n s.ppuDot

/-- The end of a step (rules R320, R324): the timer and the PPU advance by the step's cycle count. The free values move
on: the MBC3 clock (log 9), and the counter behind `Config.ioExternalRead` (log 7). -/
def advance (s : State) : State :=
  let t := ppuAdvance s.cycles (timerAdvance s.cycles s)
  { t with cart := t.cart.tickRtc t.draws, draws := t.draws + 1 }

end State

end Sys2Proof.Machine
end

