-- ==== Sys2Proof/Machine/Operands.lean ====
section
/-! DEFINITION. The operand forms (30_encoding.md rules R133 to R137): reading and writing `r8[i]`, `r16[i]`,
`r16stk[i]`, the memory pointers, and the high-page addresses. -/

namespace Sys2Proof.Machine.State

/-- Reads `r8[i]` (rule R133): index 6 is the byte at HL. -/
def readR8 (s : State) : R8 → Byte
  | .b => s.cpu.b
  | .c => s.cpu.c
  | .d => s.cpu.d
  | .e => s.cpu.e
  | .h => s.cpu.h
  | .l => s.cpu.l
  | .indHL => s.read s.hl
  | .a => s.cpu.a

/-- `r8[i] <- v` (rule R133): index 6 is a bus write at HL. -/
def writeR8 (s : State) (r : R8) (v : Byte) : State :=
  match r with
  | .b => { s with cpu.b := v }
  | .c => { s with cpu.c := v }
  | .d => { s with cpu.d := v }
  | .e => { s with cpu.e := v }
  | .h => { s with cpu.h := v }
  | .l => { s with cpu.l := v }
  | .indHL => s.write s.hl v
  | .a => s.setA v

/-- Reads `r16[i]` (rule R134). -/
def readR16 (s : State) : R16 → Addr
  | .bc => s.bc
  | .de => s.de
  | .hl => s.hl
  | .sp => s.cpu.sp

/-- `r16[i] <- v` (rule R134). -/
def writeR16 (s : State) (r : R16) (v : Addr) : State :=
  match r with
  | .bc => s.setBc v
  | .de => s.setDe v
  | .hl => s.setHl v
  | .sp => s.setSp v

/-- Reads `r16stk[i]` (rule R135). -/
def readStk (s : State) : R16Stk → Addr
  | .bc => s.bc
  | .de => s.de
  | .hl => s.hl
  | .af => s.af

/-- `r16stk[i] <- v` (rule R135); AF keeps F's low nibble 0 (rule R197). -/
def writeStk (s : State) (r : R16Stk) (v : Addr) : State :=
  match r with
  | .bc => s.setBc v
  | .de => s.setDe v
  | .hl => s.setHl v
  | .af => s.setAf v

/-- The address that `r16mem[i]` points to (rule R135). -/
def memPointer (s : State) : R16Mem → Addr
  | .bc => s.bc
  | .de => s.de
  | .hlInc => s.hl
  | .hlDec => s.hl

/-- The post-modification of `r16mem[i]` (rule R135). -/
def bumpPointer (s : State) : R16Mem → State
  | .bc => s
  | .de => s
  | .hlInc => s.setHl (s.hl + 1)
  | .hlDec => s.setHl (s.hl - 1)

end Sys2Proof.Machine.State

namespace Sys2Proof.Machine

/-- `0xFF00 + n` of the high-page forms (rule R137). -/
def highPage (n : Byte) : Addr := joinBytes 0xFF n

end Sys2Proof.Machine

namespace Sys2Proof

/-- The T-cycles of an instruction over `r8[i]`: `mem` where the operand is the byte at HL, else `reg`. -/
def R8.cost (r : R8) (reg mem : Nat) : Nat :=
  match r with
  | .indHL => mem
  | _ => reg

end Sys2Proof
end

