-- ==== Sys2Proof/Machine/Alu16.lean ====
section
/-! DEFINITION. The 16-bit arithmetic instructions (43_alu16.md). -/

namespace Sys2Proof.Machine

namespace State

/-- `ADD HL,r16[p]` (rule R240). -/
def addHl (s : State) (r : R16) : State :=
  let v := addHlFlags s.hl (s.readR16 r) s.cpu.flags
  ((s.setHl v.1).setFlags v.2).spend 8

/-- `INC r16[p]` (rule R241): "do not affect flags". -/
def incPair (s : State) (r : R16) : State := (s.writeR16 r (s.readR16 r + 1)).spend 8

/-- `DEC r16[p]` (rule R242). -/
def decPair (s : State) (r : R16) : State := (s.writeR16 r (s.readR16 r - 1)).spend 8

end State

/-- `INC BC` (R241). -/
def exec_inc_BC (s : State) : Result := .next (s.incPair .bc)

/-- `ADD HL,BC` (R240). -/
def exec_add_HL_BC (s : State) : Result := .next (s.addHl .bc)

/-- `DEC BC` (R242). -/
def exec_dec_BC (s : State) : Result := .next (s.decPair .bc)

/-- `INC DE` (R241). -/
def exec_inc_DE (s : State) : Result := .next (s.incPair .de)

/-- `ADD HL,DE` (R240). -/
def exec_add_HL_DE (s : State) : Result := .next (s.addHl .de)

/-- `DEC DE` (R242). -/
def exec_dec_DE (s : State) : Result := .next (s.decPair .de)

/-- `INC HL` (R241). -/
def exec_inc_HL (s : State) : Result := .next (s.incPair .hl)

/-- `ADD HL,HL` (R240). -/
def exec_add_HL_HL (s : State) : Result := .next (s.addHl .hl)

/-- `DEC HL` (R242). -/
def exec_dec_HL (s : State) : Result := .next (s.decPair .hl)

/-- `INC SP` (R241). -/
def exec_inc_SP (s : State) : Result := .next (s.incPair .sp)

/-- `ADD HL,SP` (R240). -/
def exec_add_HL_SP (s : State) : Result := .next (s.addHl .sp)

/-- `DEC SP` (R242). -/
def exec_dec_SP (s : State) : Result := .next (s.decPair .sp)

/-- `ADD SP,e8` (R243). -/
def exec_add_SP_e8 (e : Byte) (s : State) : Result := .next (((s.setSp (spOffsetFlags s.cpu.sp e).1).setFlags (spOffsetFlags s.cpu.sp e).2).spend 16)

end Sys2Proof.Machine
end

