-- ==== Sys2Proof/Machine/Alu8.lean ====
section
/-! DEFINITION. The 8-bit arithmetic and logic instructions (42_alu8.md). The computations are those of Flags.lean. -/

namespace Sys2Proof.Machine

namespace State

/-- A new A with its flags. -/
def setAFlags (s : State) (r : Byte × Flags) : State := (s.setA r.1).setFlags r.2

/-- `alu[y] A,s` on an operand already fetched (rules R210 to R218). -/
def aluA (s : State) (op : AluOp) (v : Byte) : State := s.setAFlags (aluFlags op s.cpu.a v s.cpu.flags)

/-- `alu[y] A,r8[z]` (rule R210). -/
def aluR8 (s : State) (op : AluOp) (src : R8) : State := (s.aluA op (s.readR8 src)).spend (src.cost 4 8)

/-- `alu[y] A,n8` (rule R210). -/
def aluImm (s : State) (op : AluOp) (n : Byte) : State := (s.aluA op n).spend 8

/-- `r8[y]` takes a new value with its flags: "one read then one write of the same address" where it is the byte at HL
(rule R220). -/
def setR8Flags (s : State) (r : R8) (v : Byte × Flags) : State := (s.writeR8 r v.1).setFlags v.2

/-- `INC r8[y]` (rules R219, R220). -/
def incR8 (s : State) (r : R8) : State := (s.setR8Flags r (incFlags (s.readR8 r) s.cpu.flags)).spend (r.cost 4 12)

/-- `DEC r8[y]` (rules R221, R222). -/
def decR8 (s : State) (r : R8) : State := (s.setR8Flags r (decFlags (s.readR8 r) s.cpu.flags)).spend (r.cost 4 12)

end State

/-- `INC B` (R219). -/
def exec_inc_B (s : State) : Result := .next (s.incR8 .b)

/-- `DEC B` (R221). -/
def exec_dec_B (s : State) : Result := .next (s.decR8 .b)

/-- `INC C` (R219). -/
def exec_inc_C (s : State) : Result := .next (s.incR8 .c)

/-- `DEC C` (R221). -/
def exec_dec_C (s : State) : Result := .next (s.decR8 .c)

/-- `INC D` (R219). -/
def exec_inc_D (s : State) : Result := .next (s.incR8 .d)

/-- `DEC D` (R221). -/
def exec_dec_D (s : State) : Result := .next (s.decR8 .d)

/-- `INC E` (R219). -/
def exec_inc_E (s : State) : Result := .next (s.incR8 .e)

/-- `DEC E` (R221). -/
def exec_dec_E (s : State) : Result := .next (s.decR8 .e)

/-- `INC H` (R219). -/
def exec_inc_H (s : State) : Result := .next (s.incR8 .h)

/-- `DEC H` (R221). -/
def exec_dec_H (s : State) : Result := .next (s.decR8 .h)

/-- `DAA` (R223). -/
def exec_daa (s : State) : Result := .next ((s.setAFlags (daaFlags s.cpu.a s.cpu.flags)).spend 4)

/-- `INC L` (R219). -/
def exec_inc_L (s : State) : Result := .next (s.incR8 .l)

/-- `DEC L` (R221). -/
def exec_dec_L (s : State) : Result := .next (s.decR8 .l)

/-- `CPL` (R224). -/
def exec_cpl (s : State) : Result := .next ((s.setAFlags (cplFlags s.cpu.a s.cpu.flags)).spend 4)

/-- `INC (HL)` (R220). -/
def exec_inc_iHL (s : State) : Result := .next (s.incR8 .indHL)

/-- `DEC (HL)` (R222). -/
def exec_dec_iHL (s : State) : Result := .next (s.decR8 .indHL)

/-- `SCF` (R225). -/
def exec_scf (s : State) : Result := .next ((s.setFlags (scfFlags s.cpu.flags)).spend 4)

/-- `INC A` (R219). -/
def exec_inc_A (s : State) : Result := .next (s.incR8 .a)

/-- `DEC A` (R221). -/
def exec_dec_A (s : State) : Result := .next (s.decR8 .a)

/-- `CCF` (R226). -/
def exec_ccf (s : State) : Result := .next ((s.setFlags (ccfFlags s.cpu.flags)).spend 4)

/-- `ADD A,B` (R211). -/
def exec_add_A_B (s : State) : Result := .next (s.aluR8 .add .b)

/-- `ADD A,C` (R211). -/
def exec_add_A_C (s : State) : Result := .next (s.aluR8 .add .c)

/-- `ADD A,D` (R211). -/
def exec_add_A_D (s : State) : Result := .next (s.aluR8 .add .d)

/-- `ADD A,E` (R211). -/
def exec_add_A_E (s : State) : Result := .next (s.aluR8 .add .e)

/-- `ADD A,H` (R211). -/
def exec_add_A_H (s : State) : Result := .next (s.aluR8 .add .h)

/-- `ADD A,L` (R211). -/
def exec_add_A_L (s : State) : Result := .next (s.aluR8 .add .l)

/-- `ADD A,(HL)` (R211). -/
def exec_add_A_iHL (s : State) : Result := .next (s.aluR8 .add .indHL)

/-- `ADD A,A` (R211). -/
def exec_add_A_A (s : State) : Result := .next (s.aluR8 .add .a)

/-- `ADC A,B` (R212). -/
def exec_adc_A_B (s : State) : Result := .next (s.aluR8 .adc .b)

/-- `ADC A,C` (R212). -/
def exec_adc_A_C (s : State) : Result := .next (s.aluR8 .adc .c)

/-- `ADC A,D` (R212). -/
def exec_adc_A_D (s : State) : Result := .next (s.aluR8 .adc .d)

/-- `ADC A,E` (R212). -/
def exec_adc_A_E (s : State) : Result := .next (s.aluR8 .adc .e)

/-- `ADC A,H` (R212). -/
def exec_adc_A_H (s : State) : Result := .next (s.aluR8 .adc .h)

/-- `ADC A,L` (R212). -/
def exec_adc_A_L (s : State) : Result := .next (s.aluR8 .adc .l)

/-- `ADC A,(HL)` (R212). -/
def exec_adc_A_iHL (s : State) : Result := .next (s.aluR8 .adc .indHL)

/-- `ADC A,A` (R212). -/
def exec_adc_A_A (s : State) : Result := .next (s.aluR8 .adc .a)

/-- `SUB A,B` (R213). -/
def exec_sub_A_B (s : State) : Result := .next (s.aluR8 .sub .b)

/-- `SUB A,C` (R213). -/
def exec_sub_A_C (s : State) : Result := .next (s.aluR8 .sub .c)

/-- `SUB A,D` (R213). -/
def exec_sub_A_D (s : State) : Result := .next (s.aluR8 .sub .d)

/-- `SUB A,E` (R213). -/
def exec_sub_A_E (s : State) : Result := .next (s.aluR8 .sub .e)

/-- `SUB A,H` (R213). -/
def exec_sub_A_H (s : State) : Result := .next (s.aluR8 .sub .h)

/-- `SUB A,L` (R213). -/
def exec_sub_A_L (s : State) : Result := .next (s.aluR8 .sub .l)

/-- `SUB A,(HL)` (R213). -/
def exec_sub_A_iHL (s : State) : Result := .next (s.aluR8 .sub .indHL)

/-- `SUB A,A` (R213). -/
def exec_sub_A_A (s : State) : Result := .next (s.aluR8 .sub .a)

/-- `SBC A,B` (R214). -/
def exec_sbc_A_B (s : State) : Result := .next (s.aluR8 .sbc .b)

/-- `SBC A,C` (R214). -/
def exec_sbc_A_C (s : State) : Result := .next (s.aluR8 .sbc .c)

/-- `SBC A,D` (R214). -/
def exec_sbc_A_D (s : State) : Result := .next (s.aluR8 .sbc .d)

/-- `SBC A,E` (R214). -/
def exec_sbc_A_E (s : State) : Result := .next (s.aluR8 .sbc .e)

/-- `SBC A,H` (R214). -/
def exec_sbc_A_H (s : State) : Result := .next (s.aluR8 .sbc .h)

/-- `SBC A,L` (R214). -/
def exec_sbc_A_L (s : State) : Result := .next (s.aluR8 .sbc .l)

/-- `SBC A,(HL)` (R214). -/
def exec_sbc_A_iHL (s : State) : Result := .next (s.aluR8 .sbc .indHL)

/-- `SBC A,A` (R214). -/
def exec_sbc_A_A (s : State) : Result := .next (s.aluR8 .sbc .a)

/-- `AND A,B` (R215). -/
def exec_and_A_B (s : State) : Result := .next (s.aluR8 .and .b)

/-- `AND A,C` (R215). -/
def exec_and_A_C (s : State) : Result := .next (s.aluR8 .and .c)

/-- `AND A,D` (R215). -/
def exec_and_A_D (s : State) : Result := .next (s.aluR8 .and .d)

/-- `AND A,E` (R215). -/
def exec_and_A_E (s : State) : Result := .next (s.aluR8 .and .e)

/-- `AND A,H` (R215). -/
def exec_and_A_H (s : State) : Result := .next (s.aluR8 .and .h)

/-- `AND A,L` (R215). -/
def exec_and_A_L (s : State) : Result := .next (s.aluR8 .and .l)

/-- `AND A,(HL)` (R215). -/
def exec_and_A_iHL (s : State) : Result := .next (s.aluR8 .and .indHL)

/-- `AND A,A` (R215). -/
def exec_and_A_A (s : State) : Result := .next (s.aluR8 .and .a)

/-- `XOR A,B` (R216). -/
def exec_xor_A_B (s : State) : Result := .next (s.aluR8 .xor .b)

/-- `XOR A,C` (R216). -/
def exec_xor_A_C (s : State) : Result := .next (s.aluR8 .xor .c)

/-- `XOR A,D` (R216). -/
def exec_xor_A_D (s : State) : Result := .next (s.aluR8 .xor .d)

/-- `XOR A,E` (R216). -/
def exec_xor_A_E (s : State) : Result := .next (s.aluR8 .xor .e)

/-- `XOR A,H` (R216). -/
def exec_xor_A_H (s : State) : Result := .next (s.aluR8 .xor .h)

/-- `XOR A,L` (R216). -/
def exec_xor_A_L (s : State) : Result := .next (s.aluR8 .xor .l)

/-- `XOR A,(HL)` (R216). -/
def exec_xor_A_iHL (s : State) : Result := .next (s.aluR8 .xor .indHL)

/-- `XOR A,A` (R216). -/
def exec_xor_A_A (s : State) : Result := .next (s.aluR8 .xor .a)

/-- `OR A,B` (R217). -/
def exec_or_A_B (s : State) : Result := .next (s.aluR8 .or .b)

/-- `OR A,C` (R217). -/
def exec_or_A_C (s : State) : Result := .next (s.aluR8 .or .c)

/-- `OR A,D` (R217). -/
def exec_or_A_D (s : State) : Result := .next (s.aluR8 .or .d)

/-- `OR A,E` (R217). -/
def exec_or_A_E (s : State) : Result := .next (s.aluR8 .or .e)

/-- `OR A,H` (R217). -/
def exec_or_A_H (s : State) : Result := .next (s.aluR8 .or .h)

/-- `OR A,L` (R217). -/
def exec_or_A_L (s : State) : Result := .next (s.aluR8 .or .l)

/-- `OR A,(HL)` (R217). -/
def exec_or_A_iHL (s : State) : Result := .next (s.aluR8 .or .indHL)

/-- `OR A,A` (R217). -/
def exec_or_A_A (s : State) : Result := .next (s.aluR8 .or .a)

/-- `CP A,B` (R218). -/
def exec_cp_A_B (s : State) : Result := .next (s.aluR8 .cp .b)

/-- `CP A,C` (R218). -/
def exec_cp_A_C (s : State) : Result := .next (s.aluR8 .cp .c)

/-- `CP A,D` (R218). -/
def exec_cp_A_D (s : State) : Result := .next (s.aluR8 .cp .d)

/-- `CP A,E` (R218). -/
def exec_cp_A_E (s : State) : Result := .next (s.aluR8 .cp .e)

/-- `CP A,H` (R218). -/
def exec_cp_A_H (s : State) : Result := .next (s.aluR8 .cp .h)

/-- `CP A,L` (R218). -/
def exec_cp_A_L (s : State) : Result := .next (s.aluR8 .cp .l)

/-- `CP A,(HL)` (R218). -/
def exec_cp_A_iHL (s : State) : Result := .next (s.aluR8 .cp .indHL)

/-- `CP A,A` (R218). -/
def exec_cp_A_A (s : State) : Result := .next (s.aluR8 .cp .a)

/-- `ADD A,n8` (R211). -/
def exec_add_A_n8 (n : Byte) (s : State) : Result := .next (s.aluImm .add n)

/-- `ADC A,n8` (R212). -/
def exec_adc_A_n8 (n : Byte) (s : State) : Result := .next (s.aluImm .adc n)

/-- `SUB A,n8` (R213). -/
def exec_sub_A_n8 (n : Byte) (s : State) : Result := .next (s.aluImm .sub n)

/-- `SBC A,n8` (R214). -/
def exec_sbc_A_n8 (n : Byte) (s : State) : Result := .next (s.aluImm .sbc n)

/-- `AND A,n8` (R215). -/
def exec_and_A_n8 (n : Byte) (s : State) : Result := .next (s.aluImm .and n)

/-- `XOR A,n8` (R216). -/
def exec_xor_A_n8 (n : Byte) (s : State) : Result := .next (s.aluImm .xor n)

/-- `OR A,n8` (R217). -/
def exec_or_A_n8 (n : Byte) (s : State) : Result := .next (s.aluImm .or n)

/-- `CP A,n8` (R218). -/
def exec_cp_A_n8 (n : Byte) (s : State) : Result := .next (s.aluImm .cp n)

end Sys2Proof.Machine
end

