-- ==== Sys2Proof/Machine/ControlFlow.lean ====
section
/-! DEFINITION. The control transfer instructions (45_control_flow.md). PC is already past the operands when a meaning
runs, which is the base of a relative jump and the address that a call pushes (10_state.md rule R25). -/

namespace Sys2Proof.Machine

namespace State

/-- A jump to `a` if `taken`, with its two T-cycle counts (rules R280, R281, R290). -/
def jumpIf (s : State) (taken : Bool) (a : Addr) (costTaken costNot : Nat) : State :=
  if taken then (s.setPc a).spend costTaken else s.spend costNot

/-- `PC +%16 sext_16(e)` (rule R283). -/
def relative (s : State) (e : Byte) : Addr := s.cpu.pc + sext16 e

/-- `Push16(PC); PC <- a` (rules R285, R291). -/
def call (s : State) (a : Addr) (cost : Nat) : State := ((s.push16 s.cpu.pc).setPc a).spend cost

/-- `CALL cc,a16` (rule R286): "When untaken SP and memory are untouched". -/
def callIf (s : State) (taken : Bool) (a : Addr) : State := if taken then s.call a 24 else s.spend 12

/-- `PC <- Pop16()` (rule R287). -/
def ret (s : State) (cost : Nat) : State :=
  let v := s.pop16
  (v.2.setPc v.1).spend cost

/-- `RET cc` (rule R288). -/
def retIf (s : State) (taken : Bool) : State := if taken then s.ret 20 else s.spend 8

/-- Whether a condition holds now (rule R290). -/
def cond (s : State) (cc : Cond) : Bool := cc.holds s.cpu.flags

end State

/-- `JR e8` (R283). -/
def exec_jr_e8 (e : Byte) (s : State) : Result := .next (s.jumpIf true (s.relative e) 12 12)

/-- `JR NZ,e8` (R284). -/
def exec_jr_NZ_e8 (e : Byte) (s : State) : Result := .next (s.jumpIf (s.cond .nz) (s.relative e) 12 8)

/-- `JR Z,e8` (R284). -/
def exec_jr_Z_e8 (e : Byte) (s : State) : Result := .next (s.jumpIf (s.cond .z) (s.relative e) 12 8)

/-- `JR NC,e8` (R284). -/
def exec_jr_NC_e8 (e : Byte) (s : State) : Result := .next (s.jumpIf (s.cond .nc) (s.relative e) 12 8)

/-- `JR C,e8` (R284). -/
def exec_jr_C_e8 (e : Byte) (s : State) : Result := .next (s.jumpIf (s.cond .c) (s.relative e) 12 8)

/-- `RET NZ` (R288). -/
def exec_ret_NZ (s : State) : Result := .next (s.retIf (s.cond .nz))

/-- `JP NZ,a16` (R281). -/
def exec_jp_NZ_a16 (a : Addr) (s : State) : Result := .next (s.jumpIf (s.cond .nz) a 16 12)

/-- `JP a16` (R280). -/
def exec_jp_a16 (a : Addr) (s : State) : Result := .next (s.jumpIf true a 16 16)

/-- `CALL NZ,a16` (R286). -/
def exec_call_NZ_a16 (a : Addr) (s : State) : Result := .next (s.callIf (s.cond .nz) a)

/-- `RST 0x00` (R291). -/
def exec_rst_00 (s : State) : Result := .next (s.call 0x0000 16)

/-- `RET Z` (R288). -/
def exec_ret_Z (s : State) : Result := .next (s.retIf (s.cond .z))

/-- `RET` (R287). -/
def exec_ret (s : State) : Result := .next (s.ret 16)

/-- `JP Z,a16` (R281). -/
def exec_jp_Z_a16 (a : Addr) (s : State) : Result := .next (s.jumpIf (s.cond .z) a 16 12)

/-- `CALL Z,a16` (R286). -/
def exec_call_Z_a16 (a : Addr) (s : State) : Result := .next (s.callIf (s.cond .z) a)

/-- `CALL a16` (R285). -/
def exec_call_a16 (a : Addr) (s : State) : Result := .next (s.call a 24)

/-- `RST 0x08` (R291). -/
def exec_rst_08 (s : State) : Result := .next (s.call 0x0008 16)

/-- `RET NC` (R288). -/
def exec_ret_NC (s : State) : Result := .next (s.retIf (s.cond .nc))

/-- `JP NC,a16` (R281). -/
def exec_jp_NC_a16 (a : Addr) (s : State) : Result := .next (s.jumpIf (s.cond .nc) a 16 12)

/-- `CALL NC,a16` (R286). -/
def exec_call_NC_a16 (a : Addr) (s : State) : Result := .next (s.callIf (s.cond .nc) a)

/-- `RST 0x10` (R291). -/
def exec_rst_10 (s : State) : Result := .next (s.call 0x0010 16)

/-- `RET C` (R288). -/
def exec_ret_C (s : State) : Result := .next (s.retIf (s.cond .c))

/-- `RETI` (R289). -/
def exec_reti (s : State) : Result := .next (s.returnFromInterrupt.spend 16)

/-- `JP C,a16` (R281). -/
def exec_jp_C_a16 (a : Addr) (s : State) : Result := .next (s.jumpIf (s.cond .c) a 16 12)

/-- `CALL C,a16` (R286). -/
def exec_call_C_a16 (a : Addr) (s : State) : Result := .next (s.callIf (s.cond .c) a)

/-- `RST 0x18` (R291). -/
def exec_rst_18 (s : State) : Result := .next (s.call 0x0018 16)

/-- `RST 0x20` (R291). -/
def exec_rst_20 (s : State) : Result := .next (s.call 0x0020 16)

/-- `JP HL` (R282). -/
def exec_jp_HL (s : State) : Result := .next (s.jumpIf true s.hl 4 4)

/-- `RST 0x28` (R291). -/
def exec_rst_28 (s : State) : Result := .next (s.call 0x0028 16)

/-- `RST 0x30` (R291). -/
def exec_rst_30 (s : State) : Result := .next (s.call 0x0030 16)

/-- `RST 0x38` (R291). -/
def exec_rst_38 (s : State) : Result := .next (s.call 0x0038 16)

end Sys2Proof.Machine
end

