-- ==== Sys2Proof/Machine/CpuControl.lean ====
section
/-! DEFINITION. The CPU control instructions (46_cpu_control.md). -/

namespace Sys2Proof.Machine

namespace State

/-- HALT (rule R304): the HALT-bug arm, the arm that acts as a NOP when HALT_BUG is false, and the halt. -/
def enterHalt (s : State) : State :=
  if s.cpu.ime = false ∧ s.pending ≠ 0 then
    if s.params.haltBug then { s with cpu.haltBug := true } else s
  else { s with cpu.halt := true }

end State

/-- `NOP` (R300). -/
def exec_nop (s : State) : Result := .next (s.spend 4)

/-- `STOP` (R305). -/
def exec_stop (_pad : Byte) (s : State) : Result := .next (({ s with cpu.stop := true } : State).spend 4)

/-- `HALT` (R304). -/
def exec_halt (s : State) : Result := .next (s.enterHalt.spend 4)

/-- the undefined opcode 0xD3 (R306). -/
def exec_illegal_D3 (s : State) : Result := .next (s.raiseIllegalOpcode.spend 4)

/-- the undefined opcode 0xDB (R306). -/
def exec_illegal_DB (s : State) : Result := .next (s.raiseIllegalOpcode.spend 4)

/-- the undefined opcode 0xDD (R306). -/
def exec_illegal_DD (s : State) : Result := .next (s.raiseIllegalOpcode.spend 4)

/-- the undefined opcode 0xE3 (R306). -/
def exec_illegal_E3 (s : State) : Result := .next (s.raiseIllegalOpcode.spend 4)

/-- the undefined opcode 0xE4 (R306). -/
def exec_illegal_E4 (s : State) : Result := .next (s.raiseIllegalOpcode.spend 4)

/-- the undefined opcode 0xEB (R306). -/
def exec_illegal_EB (s : State) : Result := .next (s.raiseIllegalOpcode.spend 4)

/-- the undefined opcode 0xEC (R306). -/
def exec_illegal_EC (s : State) : Result := .next (s.raiseIllegalOpcode.spend 4)

/-- the undefined opcode 0xED (R306). -/
def exec_illegal_ED (s : State) : Result := .next (s.raiseIllegalOpcode.spend 4)

/-- `DI` (R301). -/
def exec_di (s : State) : Result := .next (({ s with cpu.ime := false, cpu.imeEnableAfter := .none } : State).spend 4)

/-- the undefined opcode 0xF4 (R306). -/
def exec_illegal_F4 (s : State) : Result := .next (s.raiseIllegalOpcode.spend 4)

/-- `EI` (R302). -/
def exec_ei (s : State) : Result := .next (({ s with cpu.imeEnableAfter := .nextInstruction } : State).spend 4)

/-- the undefined opcode 0xFC (R306). -/
def exec_illegal_FC (s : State) : Result := .next (s.raiseIllegalOpcode.spend 4)

/-- the undefined opcode 0xFD (R306). -/
def exec_illegal_FD (s : State) : Result := .next (s.raiseIllegalOpcode.spend 4)

end Sys2Proof.Machine
end

