-- ==== Sys2Proof/Machine/Load16.lean ====
section
/-! DEFINITION. The 16-bit loads and the stack instructions (41_load16_stack.md). -/

namespace Sys2Proof.Machine

namespace State

/-- `LD r16[p],n16` (rule R190). -/
def ldPair (s : State) (r : R16) (n : Addr) : State := (s.writeR16 r n).spend 12

/-- `PUSH r16stk[p]` (rules R194, R195). -/
def pushPair (s : State) (r : R16Stk) : State := (s.push16 (s.readStk r)).spend 16

/-- `POP r16stk[p]` (rules R196, R197). -/
def popPair (s : State) (r : R16Stk) : State :=
  let v := s.pop16
  (v.2.writeStk r v.1).spend 12

end State

/-- `LD BC,n16` (R190). -/
def exec_ld_BC_n16 (n : Addr) (s : State) : Result := .next (s.ldPair .bc n)

/-- `LD (a16),SP` (R191). -/
def exec_ld_ia16_SP (a : Addr) (s : State) : Result := .next ((s.writeWord a s.cpu.sp).spend 20)

/-- `LD DE,n16` (R190). -/
def exec_ld_DE_n16 (n : Addr) (s : State) : Result := .next (s.ldPair .de n)

/-- `LD HL,n16` (R190). -/
def exec_ld_HL_n16 (n : Addr) (s : State) : Result := .next (s.ldPair .hl n)

/-- `LD SP,n16` (R190). -/
def exec_ld_SP_n16 (n : Addr) (s : State) : Result := .next (s.ldPair .sp n)

/-- `POP BC` (R196). -/
def exec_pop_BC (s : State) : Result := .next (s.popPair .bc)

/-- `PUSH BC` (R194). -/
def exec_push_BC (s : State) : Result := .next (s.pushPair .bc)

/-- `POP DE` (R196). -/
def exec_pop_DE (s : State) : Result := .next (s.popPair .de)

/-- `PUSH DE` (R194). -/
def exec_push_DE (s : State) : Result := .next (s.pushPair .de)

/-- `POP HL` (R196). -/
def exec_pop_HL (s : State) : Result := .next (s.popPair .hl)

/-- `PUSH HL` (R194). -/
def exec_push_HL (s : State) : Result := .next (s.pushPair .hl)

/-- `POP AF` (R197). -/
def exec_pop_AF (s : State) : Result := .next (s.popPair .af)

/-- `PUSH AF` (R195). -/
def exec_push_AF (s : State) : Result := .next (s.pushPair .af)

/-- `LD HL,SP+e8` (R193). -/
def exec_ld_HL_SPe8 (e : Byte) (s : State) : Result := .next (((s.setHl (spOffsetFlags s.cpu.sp e).1).setFlags (spOffsetFlags s.cpu.sp e).2).spend 12)

/-- `LD SP,HL` (R192). -/
def exec_ld_SP_HL (s : State) : Result := .next ((s.setSp s.hl).spend 8)

end Sys2Proof.Machine
end

