-- ==== Sys2Proof/Machine/Load8.lean ====
section
/-! DEFINITION. The 8-bit load instructions (40_load8.md). No flag is written and no exception is raised (rule R160). A
meaning runs on the state in which PC is already past the instruction, and records its T-cycles. -/

namespace Sys2Proof.Machine

namespace State

/-- `LD r8[y],r8[z]` (rules R161, R163, R164): the operand is read before the destination is written. -/
def ldR8 (s : State) (dst src : R8) : State :=
  (s.writeR8 dst (s.readR8 src)).spend (dst.cost (src.cost 4 8) 8)

/-- `LD r8[y],n8` (rules R162, R165). -/
def ldR8Imm (s : State) (dst : R8) (n : Byte) : State := (s.writeR8 dst n).spend (dst.cost 8 12)

/-- `LD A,(r16mem[p])` (rules R166, R168, R178, R179). -/
def loadPointer (s : State) (p : R16Mem) : State := ((s.setA (s.read (s.memPointer p))).bumpPointer p).spend 8

/-- `LD (r16mem[p]),A` (rules R167, R169, R176, R177). -/
def storePointer (s : State) (p : R16Mem) : State := ((s.write (s.memPointer p) s.cpu.a).bumpPointer p).spend 8

/-- A load of A from an address (rules R170, R172, R174). -/
def loadA (s : State) (a : Addr) (cost : Nat) : State := (s.setA (s.read a)).spend cost

/-- A store of A to an address (rules R171, R173, R175). -/
def storeA (s : State) (a : Addr) (cost : Nat) : State := (s.write a s.cpu.a).spend cost

end State

/-- `LD (BC),A` (R167). -/
def exec_ld_iBC_A (s : State) : Result := .next (s.storePointer .bc)

/-- `LD B,n8` (R162). -/
def exec_ld_B_n8 (n : Byte) (s : State) : Result := .next (s.ldR8Imm .b n)

/-- `LD A,(BC)` (R166). -/
def exec_ld_A_iBC (s : State) : Result := .next (s.loadPointer .bc)

/-- `LD C,n8` (R162). -/
def exec_ld_C_n8 (n : Byte) (s : State) : Result := .next (s.ldR8Imm .c n)

/-- `LD (DE),A` (R169). -/
def exec_ld_iDE_A (s : State) : Result := .next (s.storePointer .de)

/-- `LD D,n8` (R162). -/
def exec_ld_D_n8 (n : Byte) (s : State) : Result := .next (s.ldR8Imm .d n)

/-- `LD A,(DE)` (R168). -/
def exec_ld_A_iDE (s : State) : Result := .next (s.loadPointer .de)

/-- `LD E,n8` (R162). -/
def exec_ld_E_n8 (n : Byte) (s : State) : Result := .next (s.ldR8Imm .e n)

/-- `LD (HL+),A` (R176). -/
def exec_ld_iHLinc_A (s : State) : Result := .next (s.storePointer .hlInc)

/-- `LD H,n8` (R162). -/
def exec_ld_H_n8 (n : Byte) (s : State) : Result := .next (s.ldR8Imm .h n)

/-- `LD A,(HL+)` (R178). -/
def exec_ld_A_iHLinc (s : State) : Result := .next (s.loadPointer .hlInc)

/-- `LD L,n8` (R162). -/
def exec_ld_L_n8 (n : Byte) (s : State) : Result := .next (s.ldR8Imm .l n)

/-- `LD (HL-),A` (R177). -/
def exec_ld_iHLdec_A (s : State) : Result := .next (s.storePointer .hlDec)

/-- `LD (HL),n8` (R165). -/
def exec_ld_iHL_n8 (n : Byte) (s : State) : Result := .next (s.ldR8Imm .indHL n)

/-- `LD A,(HL-)` (R179). -/
def exec_ld_A_iHLdec (s : State) : Result := .next (s.loadPointer .hlDec)

/-- `LD A,n8` (R162). -/
def exec_ld_A_n8 (n : Byte) (s : State) : Result := .next (s.ldR8Imm .a n)

/-- `LD B,B` (R161). -/
def exec_ld_B_B (s : State) : Result := .next (s.ldR8 .b .b)

/-- `LD B,C` (R161). -/
def exec_ld_B_C (s : State) : Result := .next (s.ldR8 .b .c)

/-- `LD B,D` (R161). -/
def exec_ld_B_D (s : State) : Result := .next (s.ldR8 .b .d)

/-- `LD B,E` (R161). -/
def exec_ld_B_E (s : State) : Result := .next (s.ldR8 .b .e)

/-- `LD B,H` (R161). -/
def exec_ld_B_H (s : State) : Result := .next (s.ldR8 .b .h)

/-- `LD B,L` (R161). -/
def exec_ld_B_L (s : State) : Result := .next (s.ldR8 .b .l)

/-- `LD B,(HL)` (R163). -/
def exec_ld_B_iHL (s : State) : Result := .next (s.ldR8 .b .indHL)

/-- `LD B,A` (R161). -/
def exec_ld_B_A (s : State) : Result := .next (s.ldR8 .b .a)

/-- `LD C,B` (R161). -/
def exec_ld_C_B (s : State) : Result := .next (s.ldR8 .c .b)

/-- `LD C,C` (R161). -/
def exec_ld_C_C (s : State) : Result := .next (s.ldR8 .c .c)

/-- `LD C,D` (R161). -/
def exec_ld_C_D (s : State) : Result := .next (s.ldR8 .c .d)

/-- `LD C,E` (R161). -/
def exec_ld_C_E (s : State) : Result := .next (s.ldR8 .c .e)

/-- `LD C,H` (R161). -/
def exec_ld_C_H (s : State) : Result := .next (s.ldR8 .c .h)

/-- `LD C,L` (R161). -/
def exec_ld_C_L (s : State) : Result := .next (s.ldR8 .c .l)

/-- `LD C,(HL)` (R163). -/
def exec_ld_C_iHL (s : State) : Result := .next (s.ldR8 .c .indHL)

/-- `LD C,A` (R161). -/
def exec_ld_C_A (s : State) : Result := .next (s.ldR8 .c .a)

/-- `LD D,B` (R161). -/
def exec_ld_D_B (s : State) : Result := .next (s.ldR8 .d .b)

/-- `LD D,C` (R161). -/
def exec_ld_D_C (s : State) : Result := .next (s.ldR8 .d .c)

/-- `LD D,D` (R161). -/
def exec_ld_D_D (s : State) : Result := .next (s.ldR8 .d .d)

/-- `LD D,E` (R161). -/
def exec_ld_D_E (s : State) : Result := .next (s.ldR8 .d .e)

/-- `LD D,H` (R161). -/
def exec_ld_D_H (s : State) : Result := .next (s.ldR8 .d .h)

/-- `LD D,L` (R161). -/
def exec_ld_D_L (s : State) : Result := .next (s.ldR8 .d .l)

/-- `LD D,(HL)` (R163). -/
def exec_ld_D_iHL (s : State) : Result := .next (s.ldR8 .d .indHL)

/-- `LD D,A` (R161). -/
def exec_ld_D_A (s : State) : Result := .next (s.ldR8 .d .a)

/-- `LD E,B` (R161). -/
def exec_ld_E_B (s : State) : Result := .next (s.ldR8 .e .b)

/-- `LD E,C` (R161). -/
def exec_ld_E_C (s : State) : Result := .next (s.ldR8 .e .c)

/-- `LD E,D` (R161). -/
def exec_ld_E_D (s : State) : Result := .next (s.ldR8 .e .d)

/-- `LD E,E` (R161). -/
def exec_ld_E_E (s : State) : Result := .next (s.ldR8 .e .e)

/-- `LD E,H` (R161). -/
def exec_ld_E_H (s : State) : Result := .next (s.ldR8 .e .h)

/-- `LD E,L` (R161). -/
def exec_ld_E_L (s : State) : Result := .next (s.ldR8 .e .l)

/-- `LD E,(HL)` (R163). -/
def exec_ld_E_iHL (s : State) : Result := .next (s.ldR8 .e .indHL)

/-- `LD E,A` (R161). -/
def exec_ld_E_A (s : State) : Result := .next (s.ldR8 .e .a)

/-- `LD H,B` (R161). -/
def exec_ld_H_B (s : State) : Result := .next (s.ldR8 .h .b)

/-- `LD H,C` (R161). -/
def exec_ld_H_C (s : State) : Result := .next (s.ldR8 .h .c)

/-- `LD H,D` (R161). -/
def exec_ld_H_D (s : State) : Result := .next (s.ldR8 .h .d)

/-- `LD H,E` (R161). -/
def exec_ld_H_E (s : State) : Result := .next (s.ldR8 .h .e)

/-- `LD H,H` (R161). -/
def exec_ld_H_H (s : State) : Result := .next (s.ldR8 .h .h)

/-- `LD H,L` (R161). -/
def exec_ld_H_L (s : State) : Result := .next (s.ldR8 .h .l)

/-- `LD H,(HL)` (R163). -/
def exec_ld_H_iHL (s : State) : Result := .next (s.ldR8 .h .indHL)

/-- `LD H,A` (R161). -/
def exec_ld_H_A (s : State) : Result := .next (s.ldR8 .h .a)

/-- `LD L,B` (R161). -/
def exec_ld_L_B (s : State) : Result := .next (s.ldR8 .l .b)

/-- `LD L,C` (R161). -/
def exec_ld_L_C (s : State) : Result := .next (s.ldR8 .l .c)

/-- `LD L,D` (R161). -/
def exec_ld_L_D (s : State) : Result := .next (s.ldR8 .l .d)

/-- `LD L,E` (R161). -/
def exec_ld_L_E (s : State) : Result := .next (s.ldR8 .l .e)

/-- `LD L,H` (R161). -/
def exec_ld_L_H (s : State) : Result := .next (s.ldR8 .l .h)

/-- `LD L,L` (R161). -/
def exec_ld_L_L (s : State) : Result := .next (s.ldR8 .l .l)

/-- `LD L,(HL)` (R163). -/
def exec_ld_L_iHL (s : State) : Result := .next (s.ldR8 .l .indHL)

/-- `LD L,A` (R161). -/
def exec_ld_L_A (s : State) : Result := .next (s.ldR8 .l .a)

/-- `LD (HL),B` (R164). -/
def exec_ld_iHL_B (s : State) : Result := .next (s.ldR8 .indHL .b)

/-- `LD (HL),C` (R164). -/
def exec_ld_iHL_C (s : State) : Result := .next (s.ldR8 .indHL .c)

/-- `LD (HL),D` (R164). -/
def exec_ld_iHL_D (s : State) : Result := .next (s.ldR8 .indHL .d)

/-- `LD (HL),E` (R164). -/
def exec_ld_iHL_E (s : State) : Result := .next (s.ldR8 .indHL .e)

/-- `LD (HL),H` (R164). -/
def exec_ld_iHL_H (s : State) : Result := .next (s.ldR8 .indHL .h)

/-- `LD (HL),L` (R164). -/
def exec_ld_iHL_L (s : State) : Result := .next (s.ldR8 .indHL .l)

/-- `LD (HL),A` (R164). -/
def exec_ld_iHL_A (s : State) : Result := .next (s.ldR8 .indHL .a)

/-- `LD A,B` (R161). -/
def exec_ld_A_B (s : State) : Result := .next (s.ldR8 .a .b)

/-- `LD A,C` (R161). -/
def exec_ld_A_C (s : State) : Result := .next (s.ldR8 .a .c)

/-- `LD A,D` (R161). -/
def exec_ld_A_D (s : State) : Result := .next (s.ldR8 .a .d)

/-- `LD A,E` (R161). -/
def exec_ld_A_E (s : State) : Result := .next (s.ldR8 .a .e)

/-- `LD A,H` (R161). -/
def exec_ld_A_H (s : State) : Result := .next (s.ldR8 .a .h)

/-- `LD A,L` (R161). -/
def exec_ld_A_L (s : State) : Result := .next (s.ldR8 .a .l)

/-- `LD A,(HL)` (R163). -/
def exec_ld_A_iHL (s : State) : Result := .next (s.ldR8 .a .indHL)

/-- `LD A,A` (R161). -/
def exec_ld_A_A (s : State) : Result := .next (s.ldR8 .a .a)

/-- `LDH (a8),A` (R173). -/
def exec_ldh_ia8_A (n : Byte) (s : State) : Result := .next (s.storeA (highPage n) 12)

/-- `LDH (C),A` (R175). -/
def exec_ldh_iC_A (s : State) : Result := .next (s.storeA (highPage s.cpu.c) 8)

/-- `LD (a16),A` (R171). -/
def exec_ld_ia16_A (a : Addr) (s : State) : Result := .next (s.storeA a 16)

/-- `LDH A,(a8)` (R172). -/
def exec_ldh_A_ia8 (n : Byte) (s : State) : Result := .next (s.loadA (highPage n) 12)

/-- `LDH A,(C)` (R174). -/
def exec_ldh_A_iC (s : State) : Result := .next (s.loadA (highPage s.cpu.c) 8)

/-- `LD A,(a16)` (R170). -/
def exec_ld_A_ia16 (a : Addr) (s : State) : Result := .next (s.loadA a 16)

end Sys2Proof.Machine
end

