-- ==== Sys2Proof/Machine/RotateShift.lean ====
section
/-! DEFINITION. The rotate, shift and bit instructions (44_rotate_shift_bit.md), and the row PREFIX CB
(46_cpu_control.md rule R303). -/

namespace Sys2Proof.Machine

namespace State

/-- RLCA, RRCA, RLA, RRA (rules R250 to R253). -/
def rotateA (s : State) (op : RotOp) : State := (s.setAFlags (rotAFlags op s.cpu.a s.cpu.flags)).spend 4

/-- The CB rotates and shifts on `r8[z]` (rules R254 to R261, R265). -/
def rotateR8 (s : State) (op : RotOp) (r : R8) : State :=
  (s.setR8Flags r (rotFlags op (s.readR8 r) s.cpu.flags)).spend (r.cost 8 16)

/-- `BIT b,r8[z]` (rule R262): 12 T-cycles for (HL) (conflict C2). -/
def bitR8 (s : State) (b : Fin 8) (r : R8) : State :=
  (s.setFlags (bitFlags b (s.readR8 r) s.cpu.flags)).spend (r.cost 8 12)

/-- `RES b,r8[z]` (rule R263). -/
def resR8 (s : State) (b : Fin 8) (r : R8) : State :=
  (s.writeR8 r (s.readR8 r &&& ~~~(1#8 <<< b.val))).spend (r.cost 8 16)

/-- `SET b,r8[z]` (rule R264). -/
def setR8Bit (s : State) (b : Fin 8) (r : R8) : State :=
  (s.writeR8 r (s.readR8 r ||| 1#8 <<< b.val)).spend (r.cost 8 16)

/-- The operation that the fields of a CB opcode byte name (rules R132, R303). -/
def cbOperation (s : State) (cb : Byte) : State :=
  match fieldX cb with
  | 0 => s.rotateR8 (rotIndex (fieldY cb)) (r8Index (fieldZ cb))
  | 1 => s.bitR8 (fieldBit cb) (r8Index (fieldZ cb))
  | 2 => s.resR8 (fieldBit cb) (r8Index (fieldZ cb))
  | _ => s.setR8Bit (fieldBit cb) (r8Index (fieldZ cb))

end State

/-- `RLCA` (R250). -/
def exec_rlca (s : State) : Result := .next (s.rotateA .rlc)

/-- `RRCA` (R251). -/
def exec_rrca (s : State) : Result := .next (s.rotateA .rrc)

/-- `RLA` (R252). -/
def exec_rla (s : State) : Result := .next (s.rotateA .rl)

/-- `RRA` (R253). -/
def exec_rra (s : State) : Result := .next (s.rotateA .rr)

/-- PREFIX CB: not an instruction of its own, it runs the row of its second byte (R303). -/
def exec_prefixCb (cb : Byte) (s : State) : Result := .next (s.cbOperation cb)

/-- `RLC B` (R254). -/
def exec_rlc_B (s : State) : Result := .next (s.rotateR8 .rlc .b)

/-- `RLC C` (R254). -/
def exec_rlc_C (s : State) : Result := .next (s.rotateR8 .rlc .c)

/-- `RLC D` (R254). -/
def exec_rlc_D (s : State) : Result := .next (s.rotateR8 .rlc .d)

/-- `RLC E` (R254). -/
def exec_rlc_E (s : State) : Result := .next (s.rotateR8 .rlc .e)

/-- `RLC H` (R254). -/
def exec_rlc_H (s : State) : Result := .next (s.rotateR8 .rlc .h)

/-- `RLC L` (R254). -/
def exec_rlc_L (s : State) : Result := .next (s.rotateR8 .rlc .l)

/-- `RLC (HL)` (R254). -/
def exec_rlc_iHL (s : State) : Result := .next (s.rotateR8 .rlc .indHL)

/-- `RLC A` (R254). -/
def exec_rlc_A (s : State) : Result := .next (s.rotateR8 .rlc .a)

/-- `RRC B` (R255). -/
def exec_rrc_B (s : State) : Result := .next (s.rotateR8 .rrc .b)

/-- `RRC C` (R255). -/
def exec_rrc_C (s : State) : Result := .next (s.rotateR8 .rrc .c)

/-- `RRC D` (R255). -/
def exec_rrc_D (s : State) : Result := .next (s.rotateR8 .rrc .d)

/-- `RRC E` (R255). -/
def exec_rrc_E (s : State) : Result := .next (s.rotateR8 .rrc .e)

/-- `RRC H` (R255). -/
def exec_rrc_H (s : State) : Result := .next (s.rotateR8 .rrc .h)

/-- `RRC L` (R255). -/
def exec_rrc_L (s : State) : Result := .next (s.rotateR8 .rrc .l)

/-- `RRC (HL)` (R255). -/
def exec_rrc_iHL (s : State) : Result := .next (s.rotateR8 .rrc .indHL)

/-- `RRC A` (R255). -/
def exec_rrc_A (s : State) : Result := .next (s.rotateR8 .rrc .a)

/-- `RL B` (R256). -/
def exec_rl_B (s : State) : Result := .next (s.rotateR8 .rl .b)

/-- `RL C` (R256). -/
def exec_rl_C (s : State) : Result := .next (s.rotateR8 .rl .c)

/-- `RL D` (R256). -/
def exec_rl_D (s : State) : Result := .next (s.rotateR8 .rl .d)

/-- `RL E` (R256). -/
def exec_rl_E (s : State) : Result := .next (s.rotateR8 .rl .e)

/-- `RL H` (R256). -/
def exec_rl_H (s : State) : Result := .next (s.rotateR8 .rl .h)

/-- `RL L` (R256). -/
def exec_rl_L (s : State) : Result := .next (s.rotateR8 .rl .l)

/-- `RL (HL)` (R256). -/
def exec_rl_iHL (s : State) : Result := .next (s.rotateR8 .rl .indHL)

/-- `RL A` (R256). -/
def exec_rl_A (s : State) : Result := .next (s.rotateR8 .rl .a)

/-- `RR B` (R257). -/
def exec_rr_B (s : State) : Result := .next (s.rotateR8 .rr .b)

/-- `RR C` (R257). -/
def exec_rr_C (s : State) : Result := .next (s.rotateR8 .rr .c)

/-- `RR D` (R257). -/
def exec_rr_D (s : State) : Result := .next (s.rotateR8 .rr .d)

/-- `RR E` (R257). -/
def exec_rr_E (s : State) : Result := .next (s.rotateR8 .rr .e)

/-- `RR H` (R257). -/
def exec_rr_H (s : State) : Result := .next (s.rotateR8 .rr .h)

/-- `RR L` (R257). -/
def exec_rr_L (s : State) : Result := .next (s.rotateR8 .rr .l)

/-- `RR (HL)` (R257). -/
def exec_rr_iHL (s : State) : Result := .next (s.rotateR8 .rr .indHL)

/-- `RR A` (R257). -/
def exec_rr_A (s : State) : Result := .next (s.rotateR8 .rr .a)

/-- `SLA B` (R258). -/
def exec_sla_B (s : State) : Result := .next (s.rotateR8 .sla .b)

/-- `SLA C` (R258). -/
def exec_sla_C (s : State) : Result := .next (s.rotateR8 .sla .c)

/-- `SLA D` (R258). -/
def exec_sla_D (s : State) : Result := .next (s.rotateR8 .sla .d)

/-- `SLA E` (R258). -/
def exec_sla_E (s : State) : Result := .next (s.rotateR8 .sla .e)

/-- `SLA H` (R258). -/
def exec_sla_H (s : State) : Result := .next (s.rotateR8 .sla .h)

/-- `SLA L` (R258). -/
def exec_sla_L (s : State) : Result := .next (s.rotateR8 .sla .l)

/-- `SLA (HL)` (R258). -/
def exec_sla_iHL (s : State) : Result := .next (s.rotateR8 .sla .indHL)

/-- `SLA A` (R258). -/
def exec_sla_A (s : State) : Result := .next (s.rotateR8 .sla .a)

/-- `SRA B` (R259). -/
def exec_sra_B (s : State) : Result := .next (s.rotateR8 .sra .b)

/-- `SRA C` (R259). -/
def exec_sra_C (s : State) : Result := .next (s.rotateR8 .sra .c)

/-- `SRA D` (R259). -/
def exec_sra_D (s : State) : Result := .next (s.rotateR8 .sra .d)

/-- `SRA E` (R259). -/
def exec_sra_E (s : State) : Result := .next (s.rotateR8 .sra .e)

/-- `SRA H` (R259). -/
def exec_sra_H (s : State) : Result := .next (s.rotateR8 .sra .h)

/-- `SRA L` (R259). -/
def exec_sra_L (s : State) : Result := .next (s.rotateR8 .sra .l)

/-- `SRA (HL)` (R259). -/
def exec_sra_iHL (s : State) : Result := .next (s.rotateR8 .sra .indHL)

/-- `SRA A` (R259). -/
def exec_sra_A (s : State) : Result := .next (s.rotateR8 .sra .a)

/-- `SWAP B` (R260). -/
def exec_swap_B (s : State) : Result := .next (s.rotateR8 .swap .b)

/-- `SWAP C` (R260). -/
def exec_swap_C (s : State) : Result := .next (s.rotateR8 .swap .c)

/-- `SWAP D` (R260). -/
def exec_swap_D (s : State) : Result := .next (s.rotateR8 .swap .d)

/-- `SWAP E` (R260). -/
def exec_swap_E (s : State) : Result := .next (s.rotateR8 .swap .e)

/-- `SWAP H` (R260). -/
def exec_swap_H (s : State) : Result := .next (s.rotateR8 .swap .h)

/-- `SWAP L` (R260). -/
def exec_swap_L (s : State) : Result := .next (s.rotateR8 .swap .l)

/-- `SWAP (HL)` (R260). -/
def exec_swap_iHL (s : State) : Result := .next (s.rotateR8 .swap .indHL)

/-- `SWAP A` (R260). -/
def exec_swap_A (s : State) : Result := .next (s.rotateR8 .swap .a)

/-- `SRL B` (R261). -/
def exec_srl_B (s : State) : Result := .next (s.rotateR8 .srl .b)

/-- `SRL C` (R261). -/
def exec_srl_C (s : State) : Result := .next (s.rotateR8 .srl .c)

/-- `SRL D` (R261). -/
def exec_srl_D (s : State) : Result := .next (s.rotateR8 .srl .d)

/-- `SRL E` (R261). -/
def exec_srl_E (s : State) : Result := .next (s.rotateR8 .srl .e)

/-- `SRL H` (R261). -/
def exec_srl_H (s : State) : Result := .next (s.rotateR8 .srl .h)

/-- `SRL L` (R261). -/
def exec_srl_L (s : State) : Result := .next (s.rotateR8 .srl .l)

/-- `SRL (HL)` (R261). -/
def exec_srl_iHL (s : State) : Result := .next (s.rotateR8 .srl .indHL)

/-- `SRL A` (R261). -/
def exec_srl_A (s : State) : Result := .next (s.rotateR8 .srl .a)

/-- `BIT 0,B` (R262). -/
def exec_bit_0_B (s : State) : Result := .next (s.bitR8 0 .b)

/-- `BIT 0,C` (R262). -/
def exec_bit_0_C (s : State) : Result := .next (s.bitR8 0 .c)

/-- `BIT 0,D` (R262). -/
def exec_bit_0_D (s : State) : Result := .next (s.bitR8 0 .d)

/-- `BIT 0,E` (R262). -/
def exec_bit_0_E (s : State) : Result := .next (s.bitR8 0 .e)

/-- `BIT 0,H` (R262). -/
def exec_bit_0_H (s : State) : Result := .next (s.bitR8 0 .h)

/-- `BIT 0,L` (R262). -/
def exec_bit_0_L (s : State) : Result := .next (s.bitR8 0 .l)

/-- `BIT 0,(HL)` (R262). -/
def exec_bit_0_iHL (s : State) : Result := .next (s.bitR8 0 .indHL)

/-- `BIT 0,A` (R262). -/
def exec_bit_0_A (s : State) : Result := .next (s.bitR8 0 .a)

/-- `BIT 1,B` (R262). -/
def exec_bit_1_B (s : State) : Result := .next (s.bitR8 1 .b)

/-- `BIT 1,C` (R262). -/
def exec_bit_1_C (s : State) : Result := .next (s.bitR8 1 .c)

/-- `BIT 1,D` (R262). -/
def exec_bit_1_D (s : State) : Result := .next (s.bitR8 1 .d)

/-- `BIT 1,E` (R262). -/
def exec_bit_1_E (s : State) : Result := .next (s.bitR8 1 .e)

/-- `BIT 1,H` (R262). -/
def exec_bit_1_H (s : State) : Result := .next (s.bitR8 1 .h)

/-- `BIT 1,L` (R262). -/
def exec_bit_1_L (s : State) : Result := .next (s.bitR8 1 .l)

/-- `BIT 1,(HL)` (R262). -/
def exec_bit_1_iHL (s : State) : Result := .next (s.bitR8 1 .indHL)

/-- `BIT 1,A` (R262). -/
def exec_bit_1_A (s : State) : Result := .next (s.bitR8 1 .a)

/-- `BIT 2,B` (R262). -/
def exec_bit_2_B (s : State) : Result := .next (s.bitR8 2 .b)

/-- `BIT 2,C` (R262). -/
def exec_bit_2_C (s : State) : Result := .next (s.bitR8 2 .c)

/-- `BIT 2,D` (R262). -/
def exec_bit_2_D (s : State) : Result := .next (s.bitR8 2 .d)

/-- `BIT 2,E` (R262). -/
def exec_bit_2_E (s : State) : Result := .next (s.bitR8 2 .e)

/-- `BIT 2,H` (R262). -/
def exec_bit_2_H (s : State) : Result := .next (s.bitR8 2 .h)

/-- `BIT 2,L` (R262). -/
def exec_bit_2_L (s : State) : Result := .next (s.bitR8 2 .l)

/-- `BIT 2,(HL)` (R262). -/
def exec_bit_2_iHL (s : State) : Result := .next (s.bitR8 2 .indHL)

/-- `BIT 2,A` (R262). -/
def exec_bit_2_A (s : State) : Result := .next (s.bitR8 2 .a)

/-- `BIT 3,B` (R262). -/
def exec_bit_3_B (s : State) : Result := .next (s.bitR8 3 .b)

/-- `BIT 3,C` (R262). -/
def exec_bit_3_C (s : State) : Result := .next (s.bitR8 3 .c)

/-- `BIT 3,D` (R262). -/
def exec_bit_3_D (s : State) : Result := .next (s.bitR8 3 .d)

/-- `BIT 3,E` (R262). -/
def exec_bit_3_E (s : State) : Result := .next (s.bitR8 3 .e)

/-- `BIT 3,H` (R262). -/
def exec_bit_3_H (s : State) : Result := .next (s.bitR8 3 .h)

/-- `BIT 3,L` (R262). -/
def exec_bit_3_L (s : State) : Result := .next (s.bitR8 3 .l)

/-- `BIT 3,(HL)` (R262). -/
def exec_bit_3_iHL (s : State) : Result := .next (s.bitR8 3 .indHL)

/-- `BIT 3,A` (R262). -/
def exec_bit_3_A (s : State) : Result := .next (s.bitR8 3 .a)

/-- `BIT 4,B` (R262). -/
def exec_bit_4_B (s : State) : Result := .next (s.bitR8 4 .b)

/-- `BIT 4,C` (R262). -/
def exec_bit_4_C (s : State) : Result := .next (s.bitR8 4 .c)

/-- `BIT 4,D` (R262). -/
def exec_bit_4_D (s : State) : Result := .next (s.bitR8 4 .d)

/-- `BIT 4,E` (R262). -/
def exec_bit_4_E (s : State) : Result := .next (s.bitR8 4 .e)

/-- `BIT 4,H` (R262). -/
def exec_bit_4_H (s : State) : Result := .next (s.bitR8 4 .h)

/-- `BIT 4,L` (R262). -/
def exec_bit_4_L (s : State) : Result := .next (s.bitR8 4 .l)

/-- `BIT 4,(HL)` (R262). -/
def exec_bit_4_iHL (s : State) : Result := .next (s.bitR8 4 .indHL)

/-- `BIT 4,A` (R262). -/
def exec_bit_4_A (s : State) : Result := .next (s.bitR8 4 .a)

/-- `BIT 5,B` (R262). -/
def exec_bit_5_B (s : State) : Result := .next (s.bitR8 5 .b)

/-- `BIT 5,C` (R262). -/
def exec_bit_5_C (s : State) : Result := .next (s.bitR8 5 .c)

/-- `BIT 5,D` (R262). -/
def exec_bit_5_D (s : State) : Result := .next (s.bitR8 5 .d)

/-- `BIT 5,E` (R262). -/
def exec_bit_5_E (s : State) : Result := .next (s.bitR8 5 .e)

/-- `BIT 5,H` (R262). -/
def exec_bit_5_H (s : State) : Result := .next (s.bitR8 5 .h)

/-- `BIT 5,L` (R262). -/
def exec_bit_5_L (s : State) : Result := .next (s.bitR8 5 .l)

/-- `BIT 5,(HL)` (R262). -/
def exec_bit_5_iHL (s : State) : Result := .next (s.bitR8 5 .indHL)

/-- `BIT 5,A` (R262). -/
def exec_bit_5_A (s : State) : Result := .next (s.bitR8 5 .a)

/-- `BIT 6,B` (R262). -/
def exec_bit_6_B (s : State) : Result := .next (s.bitR8 6 .b)

/-- `BIT 6,C` (R262). -/
def exec_bit_6_C (s : State) : Result := .next (s.bitR8 6 .c)

/-- `BIT 6,D` (R262). -/
def exec_bit_6_D (s : State) : Result := .next (s.bitR8 6 .d)

/-- `BIT 6,E` (R262). -/
def exec_bit_6_E (s : State) : Result := .next (s.bitR8 6 .e)

/-- `BIT 6,H` (R262). -/
def exec_bit_6_H (s : State) : Result := .next (s.bitR8 6 .h)

/-- `BIT 6,L` (R262). -/
def exec_bit_6_L (s : State) : Result := .next (s.bitR8 6 .l)

/-- `BIT 6,(HL)` (R262). -/
def exec_bit_6_iHL (s : State) : Result := .next (s.bitR8 6 .indHL)

/-- `BIT 6,A` (R262). -/
def exec_bit_6_A (s : State) : Result := .next (s.bitR8 6 .a)

/-- `BIT 7,B` (R262). -/
def exec_bit_7_B (s : State) : Result := .next (s.bitR8 7 .b)

/-- `BIT 7,C` (R262). -/
def exec_bit_7_C (s : State) : Result := .next (s.bitR8 7 .c)

/-- `BIT 7,D` (R262). -/
def exec_bit_7_D (s : State) : Result := .next (s.bitR8 7 .d)

/-- `BIT 7,E` (R262). -/
def exec_bit_7_E (s : State) : Result := .next (s.bitR8 7 .e)

/-- `BIT 7,H` (R262). -/
def exec_bit_7_H (s : State) : Result := .next (s.bitR8 7 .h)

/-- `BIT 7,L` (R262). -/
def exec_bit_7_L (s : State) : Result := .next (s.bitR8 7 .l)

/-- `BIT 7,(HL)` (R262). -/
def exec_bit_7_iHL (s : State) : Result := .next (s.bitR8 7 .indHL)

/-- `BIT 7,A` (R262). -/
def exec_bit_7_A (s : State) : Result := .next (s.bitR8 7 .a)

/-- `RES 0,B` (R263). -/
def exec_res_0_B (s : State) : Result := .next (s.resR8 0 .b)

/-- `RES 0,C` (R263). -/
def exec_res_0_C (s : State) : Result := .next (s.resR8 0 .c)

/-- `RES 0,D` (R263). -/
def exec_res_0_D (s : State) : Result := .next (s.resR8 0 .d)

/-- `RES 0,E` (R263). -/
def exec_res_0_E (s : State) : Result := .next (s.resR8 0 .e)

/-- `RES 0,H` (R263). -/
def exec_res_0_H (s : State) : Result := .next (s.resR8 0 .h)

/-- `RES 0,L` (R263). -/
def exec_res_0_L (s : State) : Result := .next (s.resR8 0 .l)

/-- `RES 0,(HL)` (R263). -/
def exec_res_0_iHL (s : State) : Result := .next (s.resR8 0 .indHL)

/-- `RES 0,A` (R263). -/
def exec_res_0_A (s : State) : Result := .next (s.resR8 0 .a)

/-- `RES 1,B` (R263). -/
def exec_res_1_B (s : State) : Result := .next (s.resR8 1 .b)

/-- `RES 1,C` (R263). -/
def exec_res_1_C (s : State) : Result := .next (s.resR8 1 .c)

/-- `RES 1,D` (R263). -/
def exec_res_1_D (s : State) : Result := .next (s.resR8 1 .d)

/-- `RES 1,E` (R263). -/
def exec_res_1_E (s : State) : Result := .next (s.resR8 1 .e)

/-- `RES 1,H` (R263). -/
def exec_res_1_H (s : State) : Result := .next (s.resR8 1 .h)

/-- `RES 1,L` (R263). -/
def exec_res_1_L (s : State) : Result := .next (s.resR8 1 .l)

/-- `RES 1,(HL)` (R263). -/
def exec_res_1_iHL (s : State) : Result := .next (s.resR8 1 .indHL)

/-- `RES 1,A` (R263). -/
def exec_res_1_A (s : State) : Result := .next (s.resR8 1 .a)

/-- `RES 2,B` (R263). -/
def exec_res_2_B (s : State) : Result := .next (s.resR8 2 .b)

/-- `RES 2,C` (R263). -/
def exec_res_2_C (s : State) : Result := .next (s.resR8 2 .c)

/-- `RES 2,D` (R263). -/
def exec_res_2_D (s : State) : Result := .next (s.resR8 2 .d)

/-- `RES 2,E` (R263). -/
def exec_res_2_E (s : State) : Result := .next (s.resR8 2 .e)

/-- `RES 2,H` (R263). -/
def exec_res_2_H (s : State) : Result := .next (s.resR8 2 .h)

/-- `RES 2,L` (R263). -/
def exec_res_2_L (s : State) : Result := .next (s.resR8 2 .l)

/-- `RES 2,(HL)` (R263). -/
def exec_res_2_iHL (s : State) : Result := .next (s.resR8 2 .indHL)

/-- `RES 2,A` (R263). -/
def exec_res_2_A (s : State) : Result := .next (s.resR8 2 .a)

/-- `RES 3,B` (R263). -/
def exec_res_3_B (s : State) : Result := .next (s.resR8 3 .b)

/-- `RES 3,C` (R263). -/
def exec_res_3_C (s : State) : Result := .next (s.resR8 3 .c)

/-- `RES 3,D` (R263). -/
def exec_res_3_D (s : State) : Result := .next (s.resR8 3 .d)

/-- `RES 3,E` (R263). -/
def exec_res_3_E (s : State) : Result := .next (s.resR8 3 .e)

/-- `RES 3,H` (R263). -/
def exec_res_3_H (s : State) : Result := .next (s.resR8 3 .h)

/-- `RES 3,L` (R263). -/
def exec_res_3_L (s : State) : Result := .next (s.resR8 3 .l)

/-- `RES 3,(HL)` (R263). -/
def exec_res_3_iHL (s : State) : Result := .next (s.resR8 3 .indHL)

/-- `RES 3,A` (R263). -/
def exec_res_3_A (s : State) : Result := .next (s.resR8 3 .a)

/-- `RES 4,B` (R263). -/
def exec_res_4_B (s : State) : Result := .next (s.resR8 4 .b)

/-- `RES 4,C` (R263). -/
def exec_res_4_C (s : State) : Result := .next (s.resR8 4 .c)

/-- `RES 4,D` (R263). -/
def exec_res_4_D (s : State) : Result := .next (s.resR8 4 .d)

/-- `RES 4,E` (R263). -/
def exec_res_4_E (s : State) : Result := .next (s.resR8 4 .e)

/-- `RES 4,H` (R263). -/
def exec_res_4_H (s : State) : Result := .next (s.resR8 4 .h)

/-- `RES 4,L` (R263). -/
def exec_res_4_L (s : State) : Result := .next (s.resR8 4 .l)

/-- `RES 4,(HL)` (R263). -/
def exec_res_4_iHL (s : State) : Result := .next (s.resR8 4 .indHL)

/-- `RES 4,A` (R263). -/
def exec_res_4_A (s : State) : Result := .next (s.resR8 4 .a)

/-- `RES 5,B` (R263). -/
def exec_res_5_B (s : State) : Result := .next (s.resR8 5 .b)

/-- `RES 5,C` (R263). -/
def exec_res_5_C (s : State) : Result := .next (s.resR8 5 .c)

/-- `RES 5,D` (R263). -/
def exec_res_5_D (s : State) : Result := .next (s.resR8 5 .d)

/-- `RES 5,E` (R263). -/
def exec_res_5_E (s : State) : Result := .next (s.resR8 5 .e)

/-- `RES 5,H` (R263). -/
def exec_res_5_H (s : State) : Result := .next (s.resR8 5 .h)

/-- `RES 5,L` (R263). -/
def exec_res_5_L (s : State) : Result := .next (s.resR8 5 .l)

/-- `RES 5,(HL)` (R263). -/
def exec_res_5_iHL (s : State) : Result := .next (s.resR8 5 .indHL)

/-- `RES 5,A` (R263). -/
def exec_res_5_A (s : State) : Result := .next (s.resR8 5 .a)

/-- `RES 6,B` (R263). -/
def exec_res_6_B (s : State) : Result := .next (s.resR8 6 .b)

/-- `RES 6,C` (R263). -/
def exec_res_6_C (s : State) : Result := .next (s.resR8 6 .c)

/-- `RES 6,D` (R263). -/
def exec_res_6_D (s : State) : Result := .next (s.resR8 6 .d)

/-- `RES 6,E` (R263). -/
def exec_res_6_E (s : State) : Result := .next (s.resR8 6 .e)

/-- `RES 6,H` (R263). -/
def exec_res_6_H (s : State) : Result := .next (s.resR8 6 .h)

/-- `RES 6,L` (R263). -/
def exec_res_6_L (s : State) : Result := .next (s.resR8 6 .l)

/-- `RES 6,(HL)` (R263). -/
def exec_res_6_iHL (s : State) : Result := .next (s.resR8 6 .indHL)

/-- `RES 6,A` (R263). -/
def exec_res_6_A (s : State) : Result := .next (s.resR8 6 .a)

/-- `RES 7,B` (R263). -/
def exec_res_7_B (s : State) : Result := .next (s.resR8 7 .b)

/-- `RES 7,C` (R263). -/
def exec_res_7_C (s : State) : Result := .next (s.resR8 7 .c)

/-- `RES 7,D` (R263). -/
def exec_res_7_D (s : State) : Result := .next (s.resR8 7 .d)

/-- `RES 7,E` (R263). -/
def exec_res_7_E (s : State) : Result := .next (s.resR8 7 .e)

/-- `RES 7,H` (R263). -/
def exec_res_7_H (s : State) : Result := .next (s.resR8 7 .h)

/-- `RES 7,L` (R263). -/
def exec_res_7_L (s : State) : Result := .next (s.resR8 7 .l)

/-- `RES 7,(HL)` (R263). -/
def exec_res_7_iHL (s : State) : Result := .next (s.resR8 7 .indHL)

/-- `RES 7,A` (R263). -/
def exec_res_7_A (s : State) : Result := .next (s.resR8 7 .a)

/-- `SET 0,B` (R264). -/
def exec_set_0_B (s : State) : Result := .next (s.setR8Bit 0 .b)

/-- `SET 0,C` (R264). -/
def exec_set_0_C (s : State) : Result := .next (s.setR8Bit 0 .c)

/-- `SET 0,D` (R264). -/
def exec_set_0_D (s : State) : Result := .next (s.setR8Bit 0 .d)

/-- `SET 0,E` (R264). -/
def exec_set_0_E (s : State) : Result := .next (s.setR8Bit 0 .e)

/-- `SET 0,H` (R264). -/
def exec_set_0_H (s : State) : Result := .next (s.setR8Bit 0 .h)

/-- `SET 0,L` (R264). -/
def exec_set_0_L (s : State) : Result := .next (s.setR8Bit 0 .l)

/-- `SET 0,(HL)` (R264). -/
def exec_set_0_iHL (s : State) : Result := .next (s.setR8Bit 0 .indHL)

/-- `SET 0,A` (R264). -/
def exec_set_0_A (s : State) : Result := .next (s.setR8Bit 0 .a)

/-- `SET 1,B` (R264). -/
def exec_set_1_B (s : State) : Result := .next (s.setR8Bit 1 .b)

/-- `SET 1,C` (R264). -/
def exec_set_1_C (s : State) : Result := .next (s.setR8Bit 1 .c)

/-- `SET 1,D` (R264). -/
def exec_set_1_D (s : State) : Result := .next (s.setR8Bit 1 .d)

/-- `SET 1,E` (R264). -/
def exec_set_1_E (s : State) : Result := .next (s.setR8Bit 1 .e)

/-- `SET 1,H` (R264). -/
def exec_set_1_H (s : State) : Result := .next (s.setR8Bit 1 .h)

/-- `SET 1,L` (R264). -/
def exec_set_1_L (s : State) : Result := .next (s.setR8Bit 1 .l)

/-- `SET 1,(HL)` (R264). -/
def exec_set_1_iHL (s : State) : Result := .next (s.setR8Bit 1 .indHL)

/-- `SET 1,A` (R264). -/
def exec_set_1_A (s : State) : Result := .next (s.setR8Bit 1 .a)

/-- `SET 2,B` (R264). -/
def exec_set_2_B (s : State) : Result := .next (s.setR8Bit 2 .b)

/-- `SET 2,C` (R264). -/
def exec_set_2_C (s : State) : Result := .next (s.setR8Bit 2 .c)

/-- `SET 2,D` (R264). -/
def exec_set_2_D (s : State) : Result := .next (s.setR8Bit 2 .d)

/-- `SET 2,E` (R264). -/
def exec_set_2_E (s : State) : Result := .next (s.setR8Bit 2 .e)

/-- `SET 2,H` (R264). -/
def exec_set_2_H (s : State) : Result := .next (s.setR8Bit 2 .h)

/-- `SET 2,L` (R264). -/
def exec_set_2_L (s : State) : Result := .next (s.setR8Bit 2 .l)

/-- `SET 2,(HL)` (R264). -/
def exec_set_2_iHL (s : State) : Result := .next (s.setR8Bit 2 .indHL)

/-- `SET 2,A` (R264). -/
def exec_set_2_A (s : State) : Result := .next (s.setR8Bit 2 .a)

/-- `SET 3,B` (R264). -/
def exec_set_3_B (s : State) : Result := .next (s.setR8Bit 3 .b)

/-- `SET 3,C` (R264). -/
def exec_set_3_C (s : State) : Result := .next (s.setR8Bit 3 .c)

/-- `SET 3,D` (R264). -/
def exec_set_3_D (s : State) : Result := .next (s.setR8Bit 3 .d)

/-- `SET 3,E` (R264). -/
def exec_set_3_E (s : State) : Result := .next (s.setR8Bit 3 .e)

/-- `SET 3,H` (R264). -/
def exec_set_3_H (s : State) : Result := .next (s.setR8Bit 3 .h)

/-- `SET 3,L` (R264). -/
def exec_set_3_L (s : State) : Result := .next (s.setR8Bit 3 .l)

/-- `SET 3,(HL)` (R264). -/
def exec_set_3_iHL (s : State) : Result := .next (s.setR8Bit 3 .indHL)

/-- `SET 3,A` (R264). -/
def exec_set_3_A (s : State) : Result := .next (s.setR8Bit 3 .a)

/-- `SET 4,B` (R264). -/
def exec_set_4_B (s : State) : Result := .next (s.setR8Bit 4 .b)

/-- `SET 4,C` (R264). -/
def exec_set_4_C (s : State) : Result := .next (s.setR8Bit 4 .c)

/-- `SET 4,D` (R264). -/
def exec_set_4_D (s : State) : Result := .next (s.setR8Bit 4 .d)

/-- `SET 4,E` (R264). -/
def exec_set_4_E (s : State) : Result := .next (s.setR8Bit 4 .e)

/-- `SET 4,H` (R264). -/
def exec_set_4_H (s : State) : Result := .next (s.setR8Bit 4 .h)

/-- `SET 4,L` (R264). -/
def exec_set_4_L (s : State) : Result := .next (s.setR8Bit 4 .l)

/-- `SET 4,(HL)` (R264). -/
def exec_set_4_iHL (s : State) : Result := .next (s.setR8Bit 4 .indHL)

/-- `SET 4,A` (R264). -/
def exec_set_4_A (s : State) : Result := .next (s.setR8Bit 4 .a)

/-- `SET 5,B` (R264). -/
def exec_set_5_B (s : State) : Result := .next (s.setR8Bit 5 .b)

/-- `SET 5,C` (R264). -/
def exec_set_5_C (s : State) : Result := .next (s.setR8Bit 5 .c)

/-- `SET 5,D` (R264). -/
def exec_set_5_D (s : State) : Result := .next (s.setR8Bit 5 .d)

/-- `SET 5,E` (R264). -/
def exec_set_5_E (s : State) : Result := .next (s.setR8Bit 5 .e)

/-- `SET 5,H` (R264). -/
def exec_set_5_H (s : State) : Result := .next (s.setR8Bit 5 .h)

/-- `SET 5,L` (R264). -/
def exec_set_5_L (s : State) : Result := .next (s.setR8Bit 5 .l)

/-- `SET 5,(HL)` (R264). -/
def exec_set_5_iHL (s : State) : Result := .next (s.setR8Bit 5 .indHL)

/-- `SET 5,A` (R264). -/
def exec_set_5_A (s : State) : Result := .next (s.setR8Bit 5 .a)

/-- `SET 6,B` (R264). -/
def exec_set_6_B (s : State) : Result := .next (s.setR8Bit 6 .b)

/-- `SET 6,C` (R264). -/
def exec_set_6_C (s : State) : Result := .next (s.setR8Bit 6 .c)

/-- `SET 6,D` (R264). -/
def exec_set_6_D (s : State) : Result := .next (s.setR8Bit 6 .d)

/-- `SET 6,E` (R264). -/
def exec_set_6_E (s : State) : Result := .next (s.setR8Bit 6 .e)

/-- `SET 6,H` (R264). -/
def exec_set_6_H (s : State) : Result := .next (s.setR8Bit 6 .h)

/-- `SET 6,L` (R264). -/
def exec_set_6_L (s : State) : Result := .next (s.setR8Bit 6 .l)

/-- `SET 6,(HL)` (R264). -/
def exec_set_6_iHL (s : State) : Result := .next (s.setR8Bit 6 .indHL)

/-- `SET 6,A` (R264). -/
def exec_set_6_A (s : State) : Result := .next (s.setR8Bit 6 .a)

/-- `SET 7,B` (R264). -/
def exec_set_7_B (s : State) : Result := .next (s.setR8Bit 7 .b)

/-- `SET 7,C` (R264). -/
def exec_set_7_C (s : State) : Result := .next (s.setR8Bit 7 .c)

/-- `SET 7,D` (R264). -/
def exec_set_7_D (s : State) : Result := .next (s.setR8Bit 7 .d)

/-- `SET 7,E` (R264). -/
def exec_set_7_E (s : State) : Result := .next (s.setR8Bit 7 .e)

/-- `SET 7,H` (R264). -/
def exec_set_7_H (s : State) : Result := .next (s.setR8Bit 7 .h)

/-- `SET 7,L` (R264). -/
def exec_set_7_L (s : State) : Result := .next (s.setR8Bit 7 .l)

/-- `SET 7,(HL)` (R264). -/
def exec_set_7_iHL (s : State) : Result := .next (s.setR8Bit 7 .indHL)

/-- `SET 7,A` (R264). -/
def exec_set_7_A (s : State) : Result := .next (s.setR8Bit 7 .a)

end Sys2Proof.Machine
end

