-- ==== Sys2Proof/Machine/Dispatch.lean ====
section
/-! DEFINITION. The meaning of each instruction: one arm per constructor of Instr, in the order of Syntax.lean. A meaning
runs on the state in which PC is past the instruction's bytes (10_state.md rule R25). -/

namespace Sys2Proof.Machine

def exec (i : Instr) (s : State) : Host.Outcome State Fault Refusal :=
  match i with
  | .ld_BC_n16 n => Sys2Proof.Machine.exec_ld_BC_n16 n s
  | .ld_B_n8 n => Sys2Proof.Machine.exec_ld_B_n8 n s
  | .ld_ia16_SP a => Sys2Proof.Machine.exec_ld_ia16_SP a s
  | .ld_C_n8 n => Sys2Proof.Machine.exec_ld_C_n8 n s
  | .stop p => Sys2Proof.Machine.exec_stop p s
  | .ld_DE_n16 n => Sys2Proof.Machine.exec_ld_DE_n16 n s
  | .ld_D_n8 n => Sys2Proof.Machine.exec_ld_D_n8 n s
  | .jr_e8 e => Sys2Proof.Machine.exec_jr_e8 e s
  | .ld_E_n8 n => Sys2Proof.Machine.exec_ld_E_n8 n s
  | .jr_NZ_e8 e => Sys2Proof.Machine.exec_jr_NZ_e8 e s
  | .ld_HL_n16 n => Sys2Proof.Machine.exec_ld_HL_n16 n s
  | .ld_H_n8 n => Sys2Proof.Machine.exec_ld_H_n8 n s
  | .jr_Z_e8 e => Sys2Proof.Machine.exec_jr_Z_e8 e s
  | .ld_L_n8 n => Sys2Proof.Machine.exec_ld_L_n8 n s
  | .jr_NC_e8 e => Sys2Proof.Machine.exec_jr_NC_e8 e s
  | .ld_SP_n16 n => Sys2Proof.Machine.exec_ld_SP_n16 n s
  | .ld_iHL_n8 n => Sys2Proof.Machine.exec_ld_iHL_n8 n s
  | .jr_C_e8 e => Sys2Proof.Machine.exec_jr_C_e8 e s
  | .ld_A_n8 n => Sys2Proof.Machine.exec_ld_A_n8 n s
  | .jp_NZ_a16 a => Sys2Proof.Machine.exec_jp_NZ_a16 a s
  | .jp_a16 a => Sys2Proof.Machine.exec_jp_a16 a s
  | .call_NZ_a16 a => Sys2Proof.Machine.exec_call_NZ_a16 a s
  | .add_A_n8 n => Sys2Proof.Machine.exec_add_A_n8 n s
  | .jp_Z_a16 a => Sys2Proof.Machine.exec_jp_Z_a16 a s
  | .prefixCb cb => Sys2Proof.Machine.exec_prefixCb cb s
  | .call_Z_a16 a => Sys2Proof.Machine.exec_call_Z_a16 a s
  | .call_a16 a => Sys2Proof.Machine.exec_call_a16 a s
  | .adc_A_n8 n => Sys2Proof.Machine.exec_adc_A_n8 n s
  | .jp_NC_a16 a => Sys2Proof.Machine.exec_jp_NC_a16 a s
  | .call_NC_a16 a => Sys2Proof.Machine.exec_call_NC_a16 a s
  | .sub_A_n8 n => Sys2Proof.Machine.exec_sub_A_n8 n s
  | .jp_C_a16 a => Sys2Proof.Machine.exec_jp_C_a16 a s
  | .call_C_a16 a => Sys2Proof.Machine.exec_call_C_a16 a s
  | .sbc_A_n8 n => Sys2Proof.Machine.exec_sbc_A_n8 n s
  | .ldh_ia8_A n => Sys2Proof.Machine.exec_ldh_ia8_A n s
  | .and_A_n8 n => Sys2Proof.Machine.exec_and_A_n8 n s
  | .add_SP_e8 e => Sys2Proof.Machine.exec_add_SP_e8 e s
  | .ld_ia16_A a => Sys2Proof.Machine.exec_ld_ia16_A a s
  | .xor_A_n8 n => Sys2Proof.Machine.exec_xor_A_n8 n s
  | .ldh_A_ia8 n => Sys2Proof.Machine.exec_ldh_A_ia8 n s
  | .or_A_n8 n => Sys2Proof.Machine.exec_or_A_n8 n s
  | .ld_HL_SPe8 e => Sys2Proof.Machine.exec_ld_HL_SPe8 e s
  | .ld_A_ia16 a => Sys2Proof.Machine.exec_ld_A_ia16 a s
  | .cp_A_n8 n => Sys2Proof.Machine.exec_cp_A_n8 n s
  | .nop => Sys2Proof.Machine.exec_nop s
  | .ld_iBC_A => Sys2Proof.Machine.exec_ld_iBC_A s
  | .inc_BC => Sys2Proof.Machine.exec_inc_BC s
  | .inc_B => Sys2Proof.Machine.exec_inc_B s
  | .dec_B => Sys2Proof.Machine.exec_dec_B s
  | .rlca => Sys2Proof.Machine.exec_rlca s
  | .add_HL_BC => Sys2Proof.Machine.exec_add_HL_BC s
  | .ld_A_iBC => Sys2Proof.Machine.exec_ld_A_iBC s
  | .dec_BC => Sys2Proof.Machine.exec_dec_BC s
  | .inc_C => Sys2Proof.Machine.exec_inc_C s
  | .dec_C => Sys2Proof.Machine.exec_dec_C s
  | .rrca => Sys2Proof.Machine.exec_rrca s
  | .ld_iDE_A => Sys2Proof.Machine.exec_ld_iDE_A s
  | .inc_DE => Sys2Proof.Machine.exec_inc_DE s
  | .inc_D => Sys2Proof.Machine.exec_inc_D s
  | .dec_D => Sys2Proof.Machine.exec_dec_D s
  | .rla => Sys2Proof.Machine.exec_rla s
  | .add_HL_DE => Sys2Proof.Machine.exec_add_HL_DE s
  | .ld_A_iDE => Sys2Proof.Machine.exec_ld_A_iDE s
  | .dec_DE => Sys2Proof.Machine.exec_dec_DE s
  | .inc_E => Sys2Proof.Machine.exec_inc_E s
  | .dec_E => Sys2Proof.Machine.exec_dec_E s
  | .rra => Sys2Proof.Machine.exec_rra s
  | .ld_iHLinc_A => Sys2Proof.Machine.exec_ld_iHLinc_A s
  | .inc_HL => Sys2Proof.Machine.exec_inc_HL s
  | .inc_H => Sys2Proof.Machine.exec_inc_H s
  | .dec_H => Sys2Proof.Machine.exec_dec_H s
  | .daa => Sys2Proof.Machine.exec_daa s
  | .add_HL_HL => Sys2Proof.Machine.exec_add_HL_HL s
  | .ld_A_iHLinc => Sys2Proof.Machine.exec_ld_A_iHLinc s
  | .dec_HL => Sys2Proof.Machine.exec_dec_HL s
  | .inc_L => Sys2Proof.Machine.exec_inc_L s
  | .dec_L => Sys2Proof.Machine.exec_dec_L s
  | .cpl => Sys2Proof.Machine.exec_cpl s
  | .ld_iHLdec_A => Sys2Proof.Machine.exec_ld_iHLdec_A s
  | .inc_SP => Sys2Proof.Machine.exec_inc_SP s
  | .inc_iHL => Sys2Proof.Machine.exec_inc_iHL s
  | .dec_iHL => Sys2Proof.Machine.exec_dec_iHL s
  | .scf => Sys2Proof.Machine.exec_scf s
  | .add_HL_SP => Sys2Proof.Machine.exec_add_HL_SP s
  | .ld_A_iHLdec => Sys2Proof.Machine.exec_ld_A_iHLdec s
  | .dec_SP => Sys2Proof.Machine.exec_dec_SP s
  | .inc_A => Sys2Proof.Machine.exec_inc_A s
  | .dec_A => Sys2Proof.Machine.exec_dec_A s
  | .ccf => Sys2Proof.Machine.exec_ccf s
  | .ld_B_B => Sys2Proof.Machine.exec_ld_B_B s
  | .ld_B_C => Sys2Proof.Machine.exec_ld_B_C s
  | .ld_B_D => Sys2Proof.Machine.exec_ld_B_D s
  | .ld_B_E => Sys2Proof.Machine.exec_ld_B_E s
  | .ld_B_H => Sys2Proof.Machine.exec_ld_B_H s
  | .ld_B_L => Sys2Proof.Machine.exec_ld_B_L s
  | .ld_B_iHL => Sys2Proof.Machine.exec_ld_B_iHL s
  | .ld_B_A => Sys2Proof.Machine.exec_ld_B_A s
  | .ld_C_B => Sys2Proof.Machine.exec_ld_C_B s
  | .ld_C_C => Sys2Proof.Machine.exec_ld_C_C s
  | .ld_C_D => Sys2Proof.Machine.exec_ld_C_D s
  | .ld_C_E => Sys2Proof.Machine.exec_ld_C_E s
  | .ld_C_H => Sys2Proof.Machine.exec_ld_C_H s
  | .ld_C_L => Sys2Proof.Machine.exec_ld_C_L s
  | .ld_C_iHL => Sys2Proof.Machine.exec_ld_C_iHL s
  | .ld_C_A => Sys2Proof.Machine.exec_ld_C_A s
  | .ld_D_B => Sys2Proof.Machine.exec_ld_D_B s
  | .ld_D_C => Sys2Proof.Machine.exec_ld_D_C s
  | .ld_D_D => Sys2Proof.Machine.exec_ld_D_D s
  | .ld_D_E => Sys2Proof.Machine.exec_ld_D_E s
  | .ld_D_H => Sys2Proof.Machine.exec_ld_D_H s
  | .ld_D_L => Sys2Proof.Machine.exec_ld_D_L s
  | .ld_D_iHL => Sys2Proof.Machine.exec_ld_D_iHL s
  | .ld_D_A => Sys2Proof.Machine.exec_ld_D_A s
  | .ld_E_B => Sys2Proof.Machine.exec_ld_E_B s
  | .ld_E_C => Sys2Proof.Machine.exec_ld_E_C s
  | .ld_E_D => Sys2Proof.Machine.exec_ld_E_D s
  | .ld_E_E => Sys2Proof.Machine.exec_ld_E_E s
  | .ld_E_H => Sys2Proof.Machine.exec_ld_E_H s
  | .ld_E_L => Sys2Proof.Machine.exec_ld_E_L s
  | .ld_E_iHL => Sys2Proof.Machine.exec_ld_E_iHL s
  | .ld_E_A => Sys2Proof.Machine.exec_ld_E_A s
  | .ld_H_B => Sys2Proof.Machine.exec_ld_H_B s
  | .ld_H_C => Sys2Proof.Machine.exec_ld_H_C s
  | .ld_H_D => Sys2Proof.Machine.exec_ld_H_D s
  | .ld_H_E => Sys2Proof.Machine.exec_ld_H_E s
  | .ld_H_H => Sys2Proof.Machine.exec_ld_H_H s
  | .ld_H_L => Sys2Proof.Machine.exec_ld_H_L s
  | .ld_H_iHL => Sys2Proof.Machine.exec_ld_H_iHL s
  | .ld_H_A => Sys2Proof.Machine.exec_ld_H_A s
  | .ld_L_B => Sys2Proof.Machine.exec_ld_L_B s
  | .ld_L_C => Sys2Proof.Machine.exec_ld_L_C s
  | .ld_L_D => Sys2Proof.Machine.exec_ld_L_D s
  | .ld_L_E => Sys2Proof.Machine.exec_ld_L_E s
  | .ld_L_H => Sys2Proof.Machine.exec_ld_L_H s
  | .ld_L_L => Sys2Proof.Machine.exec_ld_L_L s
  | .ld_L_iHL => Sys2Proof.Machine.exec_ld_L_iHL s
  | .ld_L_A => Sys2Proof.Machine.exec_ld_L_A s
  | .ld_iHL_B => Sys2Proof.Machine.exec_ld_iHL_B s
  | .ld_iHL_C => Sys2Proof.Machine.exec_ld_iHL_C s
  | .ld_iHL_D => Sys2Proof.Machine.exec_ld_iHL_D s
  | .ld_iHL_E => Sys2Proof.Machine.exec_ld_iHL_E s
  | .ld_iHL_H => Sys2Proof.Machine.exec_ld_iHL_H s
  | .ld_iHL_L => Sys2Proof.Machine.exec_ld_iHL_L s
  | .halt => Sys2Proof.Machine.exec_halt s
  | .ld_iHL_A => Sys2Proof.Machine.exec_ld_iHL_A s
  | .ld_A_B => Sys2Proof.Machine.exec_ld_A_B s
  | .ld_A_C => Sys2Proof.Machine.exec_ld_A_C s
  | .ld_A_D => Sys2Proof.Machine.exec_ld_A_D s
  | .ld_A_E => Sys2Proof.Machine.exec_ld_A_E s
  | .ld_A_H => Sys2Proof.Machine.exec_ld_A_H s
  | .ld_A_L => Sys2Proof.Machine.exec_ld_A_L s
  | .ld_A_iHL => Sys2Proof.Machine.exec_ld_A_iHL s
  | .ld_A_A => Sys2Proof.Machine.exec_ld_A_A s
  | .add_A_B => Sys2Proof.Machine.exec_add_A_B s
  | .add_A_C => Sys2Proof.Machine.exec_add_A_C s
  | .add_A_D => Sys2Proof.Machine.exec_add_A_D s
  | .add_A_E => Sys2Proof.Machine.exec_add_A_E s
  | .add_A_H => Sys2Proof.Machine.exec_add_A_H s
  | .add_A_L => Sys2Proof.Machine.exec_add_A_L s
  | .add_A_iHL => Sys2Proof.Machine.exec_add_A_iHL s
  | .add_A_A => Sys2Proof.Machine.exec_add_A_A s
  | .adc_A_B => Sys2Proof.Machine.exec_adc_A_B s
  | .adc_A_C => Sys2Proof.Machine.exec_adc_A_C s
  | .adc_A_D => Sys2Proof.Machine.exec_adc_A_D s
  | .adc_A_E => Sys2Proof.Machine.exec_adc_A_E s
  | .adc_A_H => Sys2Proof.Machine.exec_adc_A_H s
  | .adc_A_L => Sys2Proof.Machine.exec_adc_A_L s
  | .adc_A_iHL => Sys2Proof.Machine.exec_adc_A_iHL s
  | .adc_A_A => Sys2Proof.Machine.exec_adc_A_A s
  | .sub_A_B => Sys2Proof.Machine.exec_sub_A_B s
  | .sub_A_C => Sys2Proof.Machine.exec_sub_A_C s
  | .sub_A_D => Sys2Proof.Machine.exec_sub_A_D s
  | .sub_A_E => Sys2Proof.Machine.exec_sub_A_E s
  | .sub_A_H => Sys2Proof.Machine.exec_sub_A_H s
  | .sub_A_L => Sys2Proof.Machine.exec_sub_A_L s
  | .sub_A_iHL => Sys2Proof.Machine.exec_sub_A_iHL s
  | .sub_A_A => Sys2Proof.Machine.exec_sub_A_A s
  | .sbc_A_B => Sys2Proof.Machine.exec_sbc_A_B s
  | .sbc_A_C => Sys2Proof.Machine.exec_sbc_A_C s
  | .sbc_A_D => Sys2Proof.Machine.exec_sbc_A_D s
  | .sbc_A_E => Sys2Proof.Machine.exec_sbc_A_E s
  | .sbc_A_H => Sys2Proof.Machine.exec_sbc_A_H s
  | .sbc_A_L => Sys2Proof.Machine.exec_sbc_A_L s
  | .sbc_A_iHL => Sys2Proof.Machine.exec_sbc_A_iHL s
  | .sbc_A_A => Sys2Proof.Machine.exec_sbc_A_A s
  | .and_A_B => Sys2Proof.Machine.exec_and_A_B s
  | .and_A_C => Sys2Proof.Machine.exec_and_A_C s
  | .and_A_D => Sys2Proof.Machine.exec_and_A_D s
  | .and_A_E => Sys2Proof.Machine.exec_and_A_E s
  | .and_A_H => Sys2Proof.Machine.exec_and_A_H s
  | .and_A_L => Sys2Proof.Machine.exec_and_A_L s
  | .and_A_iHL => Sys2Proof.Machine.exec_and_A_iHL s
  | .and_A_A => Sys2Proof.Machine.exec_and_A_A s
  | .xor_A_B => Sys2Proof.Machine.exec_xor_A_B s
  | .xor_A_C => Sys2Proof.Machine.exec_xor_A_C s
  | .xor_A_D => Sys2Proof.Machine.exec_xor_A_D s
  | .xor_A_E => Sys2Proof.Machine.exec_xor_A_E s
  | .xor_A_H => Sys2Proof.Machine.exec_xor_A_H s
  | .xor_A_L => Sys2Proof.Machine.exec_xor_A_L s
  | .xor_A_iHL => Sys2Proof.Machine.exec_xor_A_iHL s
  | .xor_A_A => Sys2Proof.Machine.exec_xor_A_A s
  | .or_A_B => Sys2Proof.Machine.exec_or_A_B s
  | .or_A_C => Sys2Proof.Machine.exec_or_A_C s
  | .or_A_D => Sys2Proof.Machine.exec_or_A_D s
  | .or_A_E => Sys2Proof.Machine.exec_or_A_E s
  | .or_A_H => Sys2Proof.Machine.exec_or_A_H s
  | .or_A_L => Sys2Proof.Machine.exec_or_A_L s
  | .or_A_iHL => Sys2Proof.Machine.exec_or_A_iHL s
  | .or_A_A => Sys2Proof.Machine.exec_or_A_A s
  | .cp_A_B => Sys2Proof.Machine.exec_cp_A_B s
  | .cp_A_C => Sys2Proof.Machine.exec_cp_A_C s
  | .cp_A_D => Sys2Proof.Machine.exec_cp_A_D s
  | .cp_A_E => Sys2Proof.Machine.exec_cp_A_E s
  | .cp_A_H => Sys2Proof.Machine.exec_cp_A_H s
  | .cp_A_L => Sys2Proof.Machine.exec_cp_A_L s
  | .cp_A_iHL => Sys2Proof.Machine.exec_cp_A_iHL s
  | .cp_A_A => Sys2Proof.Machine.exec_cp_A_A s
  | .ret_NZ => Sys2Proof.Machine.exec_ret_NZ s
  | .pop_BC => Sys2Proof.Machine.exec_pop_BC s
  | .push_BC => Sys2Proof.Machine.exec_push_BC s
  | .rst_00 => Sys2Proof.Machine.exec_rst_00 s
  | .ret_Z => Sys2Proof.Machine.exec_ret_Z s
  | .ret => Sys2Proof.Machine.exec_ret s
  | .rst_08 => Sys2Proof.Machine.exec_rst_08 s
  | .ret_NC => Sys2Proof.Machine.exec_ret_NC s
  | .pop_DE => Sys2Proof.Machine.exec_pop_DE s
  | .illegal_D3 => Sys2Proof.Machine.exec_illegal_D3 s
  | .push_DE => Sys2Proof.Machine.exec_push_DE s
  | .rst_10 => Sys2Proof.Machine.exec_rst_10 s
  | .ret_C => Sys2Proof.Machine.exec_ret_C s
  | .reti => Sys2Proof.Machine.exec_reti s
  | .illegal_DB => Sys2Proof.Machine.exec_illegal_DB s
  | .illegal_DD => Sys2Proof.Machine.exec_illegal_DD s
  | .rst_18 => Sys2Proof.Machine.exec_rst_18 s
  | .pop_HL => Sys2Proof.Machine.exec_pop_HL s
  | .ldh_iC_A => Sys2Proof.Machine.exec_ldh_iC_A s
  | .illegal_E3 => Sys2Proof.Machine.exec_illegal_E3 s
  | .illegal_E4 => Sys2Proof.Machine.exec_illegal_E4 s
  | .push_HL => Sys2Proof.Machine.exec_push_HL s
  | .rst_20 => Sys2Proof.Machine.exec_rst_20 s
  | .jp_HL => Sys2Proof.Machine.exec_jp_HL s
  | .illegal_EB => Sys2Proof.Machine.exec_illegal_EB s
  | .illegal_EC => Sys2Proof.Machine.exec_illegal_EC s
  | .illegal_ED => Sys2Proof.Machine.exec_illegal_ED s
  | .rst_28 => Sys2Proof.Machine.exec_rst_28 s
  | .pop_AF => Sys2Proof.Machine.exec_pop_AF s
  | .ldh_A_iC => Sys2Proof.Machine.exec_ldh_A_iC s
  | .di => Sys2Proof.Machine.exec_di s
  | .illegal_F4 => Sys2Proof.Machine.exec_illegal_F4 s
  | .push_AF => Sys2Proof.Machine.exec_push_AF s
  | .rst_30 => Sys2Proof.Machine.exec_rst_30 s
  | .ld_SP_HL => Sys2Proof.Machine.exec_ld_SP_HL s
  | .ei => Sys2Proof.Machine.exec_ei s
  | .illegal_FC => Sys2Proof.Machine.exec_illegal_FC s
  | .illegal_FD => Sys2Proof.Machine.exec_illegal_FD s
  | .rst_38 => Sys2Proof.Machine.exec_rst_38 s
  | .rlc_B => Sys2Proof.Machine.exec_rlc_B s
  | .rlc_C => Sys2Proof.Machine.exec_rlc_C s
  | .rlc_D => Sys2Proof.Machine.exec_rlc_D s
  | .rlc_E => Sys2Proof.Machine.exec_rlc_E s
  | .rlc_H => Sys2Proof.Machine.exec_rlc_H s
  | .rlc_L => Sys2Proof.Machine.exec_rlc_L s
  | .rlc_iHL => Sys2Proof.Machine.exec_rlc_iHL s
  | .rlc_A => Sys2Proof.Machine.exec_rlc_A s
  | .rrc_B => Sys2Proof.Machine.exec_rrc_B s
  | .rrc_C => Sys2Proof.Machine.exec_rrc_C s
  | .rrc_D => Sys2Proof.Machine.exec_rrc_D s
  | .rrc_E => Sys2Proof.Machine.exec_rrc_E s
  | .rrc_H => Sys2Proof.Machine.exec_rrc_H s
  | .rrc_L => Sys2Proof.Machine.exec_rrc_L s
  | .rrc_iHL => Sys2Proof.Machine.exec_rrc_iHL s
  | .rrc_A => Sys2Proof.Machine.exec_rrc_A s
  | .rl_B => Sys2Proof.Machine.exec_rl_B s
  | .rl_C => Sys2Proof.Machine.exec_rl_C s
  | .rl_D => Sys2Proof.Machine.exec_rl_D s
  | .rl_E => Sys2Proof.Machine.exec_rl_E s
  | .rl_H => Sys2Proof.Machine.exec_rl_H s
  | .rl_L => Sys2Proof.Machine.exec_rl_L s
  | .rl_iHL => Sys2Proof.Machine.exec_rl_iHL s
  | .rl_A => Sys2Proof.Machine.exec_rl_A s
  | .rr_B => Sys2Proof.Machine.exec_rr_B s
  | .rr_C => Sys2Proof.Machine.exec_rr_C s
  | .rr_D => Sys2Proof.Machine.exec_rr_D s
  | .rr_E => Sys2Proof.Machine.exec_rr_E s
  | .rr_H => Sys2Proof.Machine.exec_rr_H s
  | .rr_L => Sys2Proof.Machine.exec_rr_L s
  | .rr_iHL => Sys2Proof.Machine.exec_rr_iHL s
  | .rr_A => Sys2Proof.Machine.exec_rr_A s
  | .sla_B => Sys2Proof.Machine.exec_sla_B s
  | .sla_C => Sys2Proof.Machine.exec_sla_C s
  | .sla_D => Sys2Proof.Machine.exec_sla_D s
  | .sla_E => Sys2Proof.Machine.exec_sla_E s
  | .sla_H => Sys2Proof.Machine.exec_sla_H s
  | .sla_L => Sys2Proof.Machine.exec_sla_L s
  | .sla_iHL => Sys2Proof.Machine.exec_sla_iHL s
  | .sla_A => Sys2Proof.Machine.exec_sla_A s
  | .sra_B => Sys2Proof.Machine.exec_sra_B s
  | .sra_C => Sys2Proof.Machine.exec_sra_C s
  | .sra_D => Sys2Proof.Machine.exec_sra_D s
  | .sra_E => Sys2Proof.Machine.exec_sra_E s
  | .sra_H => Sys2Proof.Machine.exec_sra_H s
  | .sra_L => Sys2Proof.Machine.exec_sra_L s
  | .sra_iHL => Sys2Proof.Machine.exec_sra_iHL s
  | .sra_A => Sys2Proof.Machine.exec_sra_A s
  | .swap_B => Sys2Proof.Machine.exec_swap_B s
  | .swap_C => Sys2Proof.Machine.exec_swap_C s
  | .swap_D => Sys2Proof.Machine.exec_swap_D s
  | .swap_E => Sys2Proof.Machine.exec_swap_E s
  | .swap_H => Sys2Proof.Machine.exec_swap_H s
  | .swap_L => Sys2Proof.Machine.exec_swap_L s
  | .swap_iHL => Sys2Proof.Machine.exec_swap_iHL s
  | .swap_A => Sys2Proof.Machine.exec_swap_A s
  | .srl_B => Sys2Proof.Machine.exec_srl_B s
  | .srl_C => Sys2Proof.Machine.exec_srl_C s
  | .srl_D => Sys2Proof.Machine.exec_srl_D s
  | .srl_E => Sys2Proof.Machine.exec_srl_E s
  | .srl_H => Sys2Proof.Machine.exec_srl_H s
  | .srl_L => Sys2Proof.Machine.exec_srl_L s
  | .srl_iHL => Sys2Proof.Machine.exec_srl_iHL s
  | .srl_A => Sys2Proof.Machine.exec_srl_A s
  | .bit_0_B => Sys2Proof.Machine.exec_bit_0_B s
  | .bit_0_C => Sys2Proof.Machine.exec_bit_0_C s
  | .bit_0_D => Sys2Proof.Machine.exec_bit_0_D s
  | .bit_0_E => Sys2Proof.Machine.exec_bit_0_E s
  | .bit_0_H => Sys2Proof.Machine.exec_bit_0_H s
  | .bit_0_L => Sys2Proof.Machine.exec_bit_0_L s
  | .bit_0_iHL => Sys2Proof.Machine.exec_bit_0_iHL s
  | .bit_0_A => Sys2Proof.Machine.exec_bit_0_A s
  | .bit_1_B => Sys2Proof.Machine.exec_bit_1_B s
  | .bit_1_C => Sys2Proof.Machine.exec_bit_1_C s
  | .bit_1_D => Sys2Proof.Machine.exec_bit_1_D s
  | .bit_1_E => Sys2Proof.Machine.exec_bit_1_E s
  | .bit_1_H => Sys2Proof.Machine.exec_bit_1_H s
  | .bit_1_L => Sys2Proof.Machine.exec_bit_1_L s
  | .bit_1_iHL => Sys2Proof.Machine.exec_bit_1_iHL s
  | .bit_1_A => Sys2Proof.Machine.exec_bit_1_A s
  | .bit_2_B => Sys2Proof.Machine.exec_bit_2_B s
  | .bit_2_C => Sys2Proof.Machine.exec_bit_2_C s
  | .bit_2_D => Sys2Proof.Machine.exec_bit_2_D s
  | .bit_2_E => Sys2Proof.Machine.exec_bit_2_E s
  | .bit_2_H => Sys2Proof.Machine.exec_bit_2_H s
  | .bit_2_L => Sys2Proof.Machine.exec_bit_2_L s
  | .bit_2_iHL => Sys2Proof.Machine.exec_bit_2_iHL s
  | .bit_2_A => Sys2Proof.Machine.exec_bit_2_A s
  | .bit_3_B => Sys2Proof.Machine.exec_bit_3_B s
  | .bit_3_C => Sys2Proof.Machine.exec_bit_3_C s
  | .bit_3_D => Sys2Proof.Machine.exec_bit_3_D s
  | .bit_3_E => Sys2Proof.Machine.exec_bit_3_E s
  | .bit_3_H => Sys2Proof.Machine.exec_bit_3_H s
  | .bit_3_L => Sys2Proof.Machine.exec_bit_3_L s
  | .bit_3_iHL => Sys2Proof.Machine.exec_bit_3_iHL s
  | .bit_3_A => Sys2Proof.Machine.exec_bit_3_A s
  | .bit_4_B => Sys2Proof.Machine.exec_bit_4_B s
  | .bit_4_C => Sys2Proof.Machine.exec_bit_4_C s
  | .bit_4_D => Sys2Proof.Machine.exec_bit_4_D s
  | .bit_4_E => Sys2Proof.Machine.exec_bit_4_E s
  | .bit_4_H => Sys2Proof.Machine.exec_bit_4_H s
  | .bit_4_L => Sys2Proof.Machine.exec_bit_4_L s
  | .bit_4_iHL => Sys2Proof.Machine.exec_bit_4_iHL s
  | .bit_4_A => Sys2Proof.Machine.exec_bit_4_A s
  | .bit_5_B => Sys2Proof.Machine.exec_bit_5_B s
  | .bit_5_C => Sys2Proof.Machine.exec_bit_5_C s
  | .bit_5_D => Sys2Proof.Machine.exec_bit_5_D s
  | .bit_5_E => Sys2Proof.Machine.exec_bit_5_E s
  | .bit_5_H => Sys2Proof.Machine.exec_bit_5_H s
  | .bit_5_L => Sys2Proof.Machine.exec_bit_5_L s
  | .bit_5_iHL => Sys2Proof.Machine.exec_bit_5_iHL s
  | .bit_5_A => Sys2Proof.Machine.exec_bit_5_A s
  | .bit_6_B => Sys2Proof.Machine.exec_bit_6_B s
  | .bit_6_C => Sys2Proof.Machine.exec_bit_6_C s
  | .bit_6_D => Sys2Proof.Machine.exec_bit_6_D s
  | .bit_6_E => Sys2Proof.Machine.exec_bit_6_E s
  | .bit_6_H => Sys2Proof.Machine.exec_bit_6_H s
  | .bit_6_L => Sys2Proof.Machine.exec_bit_6_L s
  | .bit_6_iHL => Sys2Proof.Machine.exec_bit_6_iHL s
  | .bit_6_A => Sys2Proof.Machine.exec_bit_6_A s
  | .bit_7_B => Sys2Proof.Machine.exec_bit_7_B s
  | .bit_7_C => Sys2Proof.Machine.exec_bit_7_C s
  | .bit_7_D => Sys2Proof.Machine.exec_bit_7_D s
  | .bit_7_E => Sys2Proof.Machine.exec_bit_7_E s
  | .bit_7_H => Sys2Proof.Machine.exec_bit_7_H s
  | .bit_7_L => Sys2Proof.Machine.exec_bit_7_L s
  | .bit_7_iHL => Sys2Proof.Machine.exec_bit_7_iHL s
  | .bit_7_A => Sys2Proof.Machine.exec_bit_7_A s
  | .res_0_B => Sys2Proof.Machine.exec_res_0_B s
  | .res_0_C => Sys2Proof.Machine.exec_res_0_C s
  | .res_0_D => Sys2Proof.Machine.exec_res_0_D s
  | .res_0_E => Sys2Proof.Machine.exec_res_0_E s
  | .res_0_H => Sys2Proof.Machine.exec_res_0_H s
  | .res_0_L => Sys2Proof.Machine.exec_res_0_L s
  | .res_0_iHL => Sys2Proof.Machine.exec_res_0_iHL s
  | .res_0_A => Sys2Proof.Machine.exec_res_0_A s
  | .res_1_B => Sys2Proof.Machine.exec_res_1_B s
  | .res_1_C => Sys2Proof.Machine.exec_res_1_C s
  | .res_1_D => Sys2Proof.Machine.exec_res_1_D s
  | .res_1_E => Sys2Proof.Machine.exec_res_1_E s
  | .res_1_H => Sys2Proof.Machine.exec_res_1_H s
  | .res_1_L => Sys2Proof.Machine.exec_res_1_L s
  | .res_1_iHL => Sys2Proof.Machine.exec_res_1_iHL s
  | .res_1_A => Sys2Proof.Machine.exec_res_1_A s
  | .res_2_B => Sys2Proof.Machine.exec_res_2_B s
  | .res_2_C => Sys2Proof.Machine.exec_res_2_C s
  | .res_2_D => Sys2Proof.Machine.exec_res_2_D s
  | .res_2_E => Sys2Proof.Machine.exec_res_2_E s
  | .res_2_H => Sys2Proof.Machine.exec_res_2_H s
  | .res_2_L => Sys2Proof.Machine.exec_res_2_L s
  | .res_2_iHL => Sys2Proof.Machine.exec_res_2_iHL s
  | .res_2_A => Sys2Proof.Machine.exec_res_2_A s
  | .res_3_B => Sys2Proof.Machine.exec_res_3_B s
  | .res_3_C => Sys2Proof.Machine.exec_res_3_C s
  | .res_3_D => Sys2Proof.Machine.exec_res_3_D s
  | .res_3_E => Sys2Proof.Machine.exec_res_3_E s
  | .res_3_H => Sys2Proof.Machine.exec_res_3_H s
  | .res_3_L => Sys2Proof.Machine.exec_res_3_L s
  | .res_3_iHL => Sys2Proof.Machine.exec_res_3_iHL s
  | .res_3_A => Sys2Proof.Machine.exec_res_3_A s
  | .res_4_B => Sys2Proof.Machine.exec_res_4_B s
  | .res_4_C => Sys2Proof.Machine.exec_res_4_C s
  | .res_4_D => Sys2Proof.Machine.exec_res_4_D s
  | .res_4_E => Sys2Proof.Machine.exec_res_4_E s
  | .res_4_H => Sys2Proof.Machine.exec_res_4_H s
  | .res_4_L => Sys2Proof.Machine.exec_res_4_L s
  | .res_4_iHL => Sys2Proof.Machine.exec_res_4_iHL s
  | .res_4_A => Sys2Proof.Machine.exec_res_4_A s
  | .res_5_B => Sys2Proof.Machine.exec_res_5_B s
  | .res_5_C => Sys2Proof.Machine.exec_res_5_C s
  | .res_5_D => Sys2Proof.Machine.exec_res_5_D s
  | .res_5_E => Sys2Proof.Machine.exec_res_5_E s
  | .res_5_H => Sys2Proof.Machine.exec_res_5_H s
  | .res_5_L => Sys2Proof.Machine.exec_res_5_L s
  | .res_5_iHL => Sys2Proof.Machine.exec_res_5_iHL s
  | .res_5_A => Sys2Proof.Machine.exec_res_5_A s
  | .res_6_B => Sys2Proof.Machine.exec_res_6_B s
  | .res_6_C => Sys2Proof.Machine.exec_res_6_C s
  | .res_6_D => Sys2Proof.Machine.exec_res_6_D s
  | .res_6_E => Sys2Proof.Machine.exec_res_6_E s
  | .res_6_H => Sys2Proof.Machine.exec_res_6_H s
  | .res_6_L => Sys2Proof.Machine.exec_res_6_L s
  | .res_6_iHL => Sys2Proof.Machine.exec_res_6_iHL s
  | .res_6_A => Sys2Proof.Machine.exec_res_6_A s
  | .res_7_B => Sys2Proof.Machine.exec_res_7_B s
  | .res_7_C => Sys2Proof.Machine.exec_res_7_C s
  | .res_7_D => Sys2Proof.Machine.exec_res_7_D s
  | .res_7_E => Sys2Proof.Machine.exec_res_7_E s
  | .res_7_H => Sys2Proof.Machine.exec_res_7_H s
  | .res_7_L => Sys2Proof.Machine.exec_res_7_L s
  | .res_7_iHL => Sys2Proof.Machine.exec_res_7_iHL s
  | .res_7_A => Sys2Proof.Machine.exec_res_7_A s
  | .set_0_B => Sys2Proof.Machine.exec_set_0_B s
  | .set_0_C => Sys2Proof.Machine.exec_set_0_C s
  | .set_0_D => Sys2Proof.Machine.exec_set_0_D s
  | .set_0_E => Sys2Proof.Machine.exec_set_0_E s
  | .set_0_H => Sys2Proof.Machine.exec_set_0_H s
  | .set_0_L => Sys2Proof.Machine.exec_set_0_L s
  | .set_0_iHL => Sys2Proof.Machine.exec_set_0_iHL s
  | .set_0_A => Sys2Proof.Machine.exec_set_0_A s
  | .set_1_B => Sys2Proof.Machine.exec_set_1_B s
  | .set_1_C => Sys2Proof.Machine.exec_set_1_C s
  | .set_1_D => Sys2Proof.Machine.exec_set_1_D s
  | .set_1_E => Sys2Proof.Machine.exec_set_1_E s
  | .set_1_H => Sys2Proof.Machine.exec_set_1_H s
  | .set_1_L => Sys2Proof.Machine.exec_set_1_L s
  | .set_1_iHL => Sys2Proof.Machine.exec_set_1_iHL s
  | .set_1_A => Sys2Proof.Machine.exec_set_1_A s
  | .set_2_B => Sys2Proof.Machine.exec_set_2_B s
  | .set_2_C => Sys2Proof.Machine.exec_set_2_C s
  | .set_2_D => Sys2Proof.Machine.exec_set_2_D s
  | .set_2_E => Sys2Proof.Machine.exec_set_2_E s
  | .set_2_H => Sys2Proof.Machine.exec_set_2_H s
  | .set_2_L => Sys2Proof.Machine.exec_set_2_L s
  | .set_2_iHL => Sys2Proof.Machine.exec_set_2_iHL s
  | .set_2_A => Sys2Proof.Machine.exec_set_2_A s
  | .set_3_B => Sys2Proof.Machine.exec_set_3_B s
  | .set_3_C => Sys2Proof.Machine.exec_set_3_C s
  | .set_3_D => Sys2Proof.Machine.exec_set_3_D s
  | .set_3_E => Sys2Proof.Machine.exec_set_3_E s
  | .set_3_H => Sys2Proof.Machine.exec_set_3_H s
  | .set_3_L => Sys2Proof.Machine.exec_set_3_L s
  | .set_3_iHL => Sys2Proof.Machine.exec_set_3_iHL s
  | .set_3_A => Sys2Proof.Machine.exec_set_3_A s
  | .set_4_B => Sys2Proof.Machine.exec_set_4_B s
  | .set_4_C => Sys2Proof.Machine.exec_set_4_C s
  | .set_4_D => Sys2Proof.Machine.exec_set_4_D s
  | .set_4_E => Sys2Proof.Machine.exec_set_4_E s
  | .set_4_H => Sys2Proof.Machine.exec_set_4_H s
  | .set_4_L => Sys2Proof.Machine.exec_set_4_L s
  | .set_4_iHL => Sys2Proof.Machine.exec_set_4_iHL s
  | .set_4_A => Sys2Proof.Machine.exec_set_4_A s
  | .set_5_B => Sys2Proof.Machine.exec_set_5_B s
  | .set_5_C => Sys2Proof.Machine.exec_set_5_C s
  | .set_5_D => Sys2Proof.Machine.exec_set_5_D s
  | .set_5_E => Sys2Proof.Machine.exec_set_5_E s
  | .set_5_H => Sys2Proof.Machine.exec_set_5_H s
  | .set_5_L => Sys2Proof.Machine.exec_set_5_L s
  | .set_5_iHL => Sys2Proof.Machine.exec_set_5_iHL s
  | .set_5_A => Sys2Proof.Machine.exec_set_5_A s
  | .set_6_B => Sys2Proof.Machine.exec_set_6_B s
  | .set_6_C => Sys2Proof.Machine.exec_set_6_C s
  | .set_6_D => Sys2Proof.Machine.exec_set_6_D s
  | .set_6_E => Sys2Proof.Machine.exec_set_6_E s
  | .set_6_H => Sys2Proof.Machine.exec_set_6_H s
  | .set_6_L => Sys2Proof.Machine.exec_set_6_L s
  | .set_6_iHL => Sys2Proof.Machine.exec_set_6_iHL s
  | .set_6_A => Sys2Proof.Machine.exec_set_6_A s
  | .set_7_B => Sys2Proof.Machine.exec_set_7_B s
  | .set_7_C => Sys2Proof.Machine.exec_set_7_C s
  | .set_7_D => Sys2Proof.Machine.exec_set_7_D s
  | .set_7_E => Sys2Proof.Machine.exec_set_7_E s
  | .set_7_H => Sys2Proof.Machine.exec_set_7_H s
  | .set_7_L => Sys2Proof.Machine.exec_set_7_L s
  | .set_7_iHL => Sys2Proof.Machine.exec_set_7_iHL s
  | .set_7_A => Sys2Proof.Machine.exec_set_7_A s

end Sys2Proof.Machine
end

