-- ==== Sys2Proof/Machine/Fetch.lean ====
section
/-! DEFINITION. The parts of the machine step that Step.lean calls (60_exceptions.md rules R320 to R323): what the CPU
does in a step, the fetch of a whole instruction, EI's delay, and placing an instruction where PC points. -/

namespace Sys2Proof.Machine

namespace State

/-! ### What a step does -/

/-- This step's `ExtIrq`: the first entry of the input, empty when there is none (rule R341, log 6). -/
def ext (s : State) : ExtIrq := s.extIrq.headD { serial := false, joypad := false }

end State

/-- The bits of IF that an `ExtIrq` requests (rule R341). -/
def ExtIrq.mask (x : ExtIrq) : BitVec 5 :=
  (if x.serial then IrqSource.serial.mask else 0) ||| (if x.joypad then IrqSource.joypad.mask else 0)

namespace State

/-- The outside requests land at the start of the step (rule R320), and the input moves on. -/
def acceptExt (s : State) : State := { s.request s.ext.mask with extIrq := s.extIrq.tail }

/-- A step that contains a Joypad request ends a stop (rule R352). -/
def wakeStop (s : State) (x : ExtIrq) : State := if x.joypad then { s with cpu.stop := false } else s

/-- The halt wake (rule R351): `IF & IE & 0x1F != 0`, whatever IME is. -/
def wakeHalt (s : State) : State := if s.pending ≠ 0 then { s with cpu.halt := false } else s

end State

/-- What the CPU does in one step (rule R320), with the state it does it in. -/
inductive CpuAction where
  /-- An idle period of a locked, stopped or halted CPU. -/
  | idle (s : State)
  /-- The service sequence for a source. -/
  | service (s : State) (q : IrqSource)
  /-- One instruction. -/
  | execute (s : State)
  deriving DecidableEq, Repr

namespace State

/-- A serviceable interrupt, else the halted idle, else an instruction (rules R320, R342, R345, R350). -/
def runningAction (s : State) : CpuAction :=
  if s.cpu.ime = true ∧ s.pending ≠ 0 then .service s (firstPending s.pending)
  else if s.cpu.halt then .idle s
  else .execute s

/-- The tests at the top of a step in their order (rules R320, R345, R352, R353): lock, stop, the halt wake, then
`runningAction`. -/
def cpuAction (s : State) : CpuAction :=
  let s1 := s.acceptExt
  if s1.cpu.lock then .idle s1
  else
    let s2 := s1.wakeStop s.ext
    if s2.cpu.stop then .idle s2
    else s2.wakeHalt.runningAction

/-! ### Fetching an instruction -/

/-- Fetches `n` operand bytes (rule R12), in ascending address order (rule R61). -/
def fetchBytes : Nat → State → List Byte × State
  | 0, s => ([], s)
  | n + 1, s =>
    let r := s.fetch8
    let rest := fetchBytes n r.2
    (r.1 :: rest.1, rest.2)

/-- Fetches and decodes one instruction (rules R147, R322, R323): the opcode byte, then as many operand bytes as it
calls for. Every rule of files 40 to 46 fetches its operands before it does anything else, so they are fetched here
(log 11). -/
def fetched (s : State) : Instr × State :=
  let op := s.fetchOpcode
  let r := fetchBytes (operandCount op.1) op.2
  (decodeOp op.1 (r.1.getD 0 0) (r.1.getD 1 0), r.2)

/-- EI's delay, applied when an instruction has retired (rule R322): `was` is `ime_enable_after` before it. -/
def retire (s : State) (was : ImeDelay) : State :=
  if was = .nextInstruction ∧ s.cpu.imeEnableAfter = .nextInstruction then
    { s with cpu.ime := true, cpu.imeEnableAfter := .none }
  else s

/-! ### Placing an instruction (the load of a program, log 4) -/

/-- Puts a byte where a bus read of the address finds it: into the ROM image, a memory, open external RAM, or IE. The
unusable area and the I/O registers hold no code and stay as they are. -/
def placeByte (s : State) (a : Addr) (v : Byte) : State :=
  match region a with
  | .rom => { s with cart.rom := Store.set s.cart.rom (s.cart.romIndex a) v }
  | .vram => s.setMem a v
  | .extRam => { s with cart := s.cart.writeRam a v }
  | .wram => s.setMem a v
  | .echo => s.setMem a v
  | .oam => s.setMem a v
  | .unusable => s
  | .io => s
  | .hram => s.setMem a v
  | .ie => { s with irq.ie := v }

/-- Places bytes from an address on. -/
def placeBytes (s : State) (a : Addr) : List Byte → State
  | [] => s
  | v :: vs => (s.placeByte a v).placeBytes (a + 1) vs

/-- A state that fetches in its next step: not locked, stopped or halted, no HALT bug waiting, and IME cleared if the
step would service an interrupt first. -/
def readyToFetch (s : State) : State :=
  { s with
    cpu.lock := false
    cpu.stop := false
    cpu.halt := false
    cpu.haltBug := false
    cpu.ime := s.cpu.ime && decide (s.acceptExt.pending = 0) }

end State

end Sys2Proof.Machine
end

