-- ==== Sys2Proof/Machine/Step.lean ====
section
/-! DEFINITION. The machine step (60_exceptions.md rules R320 to R324, R342 to R353). -/

namespace Sys2Proof.Machine

/-- One step of the machine (rule R320): the outside requests land, the CPU does one of its things, and the peripherals
advance by its cycle count. -/
def step (s : State) : Host.Outcome State Fault Refusal :=
  match s.cpuAction with
  | .idle t => .next (t.spend 4).advance
  | .service t q => .next (t.serviceInterrupt q).advance
  | .execute t =>
    match exec t.fetched.1 t.fetched.2 with
    | .next u => .next (u.retire t.cpu.imeEnableAfter).advance
    | .fault r => .fault r
    | .refused r => .refused r

/-- A state whose very next step fetches and runs the instruction of a word of opcode_table.json: its bytes, padded with
zero bytes to the longest instruction, are stored where PC points, the CPU is neither locked, stopped nor halted and has
no HALT bug waiting, and an interrupt that the step would service first is masked by IME. In `State.reset` only the
three bytes change (log 4). -/
def State.withFetchWord (s : State) (nbits w : Nat) : State :=
  (s.readyToFetch).placeBytes s.cpu.pc (tableBytes nbits w)

end Sys2Proof.Machine
end

