-- ==== Sys2Proof/Safety.lean ====
section
/-! DEFINITION. The terms that statements about the machine use: the states a run does not leave or ends in, the
invariant that every step keeps, and what an instruction stores to. -/

namespace Sys2Proof

/-! ### The numbers of the operands (rules R133 to R136) -/

/-- The index i of `r8[i]` (rule R133). -/
def R8.number : R8 → Nat
  | .b => 0
  | .c => 1
  | .d => 2
  | .e => 3
  | .h => 4
  | .l => 5
  | .indHL => 6
  | .a => 7

/-- The index i of `r16[i]` (rule R134). -/
def R16.number : R16 → Nat
  | .bc => 0
  | .de => 1
  | .hl => 2
  | .sp => 3

/-- The index i of `r16stk[i]` (rule R135). -/
def R16Stk.number : R16Stk → Nat
  | .bc => 0
  | .de => 1
  | .hl => 2
  | .af => 3

/-- The index i of `cc[i]` (rule R136). -/
def Cond.number : Cond → Nat
  | .nz => 0
  | .z => 1
  | .nc => 2
  | .c => 3

/-- The index i of `alu[i]` (rule R136). -/
def AluOp.number : AluOp → Nat
  | .add => 0
  | .adc => 1
  | .sub => 2
  | .sbc => 3
  | .and => 4
  | .xor => 5
  | .or => 6
  | .cp => 7

/-- The index i of `rot[i]` (rule R136). -/
def RotOp.number : RotOp → Nat
  | .rlc => 0
  | .rrc => 1
  | .rl => 2
  | .rr => 3
  | .sla => 4
  | .sra => 5
  | .swap => 6
  | .srl => 7

namespace Machine

/-! ### States a run stays in or ends in -/

/-- A locked CPU (rules R32, R353): "the run is not final and never will be" (rule R326). -/
def State.Locked (s : State) : Prop := s.cpu.lock = true

/-- A halted CPU that no interrupt can wake: `IE & 0x1F` is 0 (rule R443; 93_implementation_defined.md U17). -/
def State.StuckInHalt (s : State) : Prop :=
  s.cpu.lock = false ∧ s.cpu.stop = false ∧ s.cpu.halt = true ∧ s.irq.ie.extractLsb' 0 5 = 0

/-- A stopped CPU while no joypad request is to come (rule R352; 93_implementation_defined.md U18). -/
def State.StuckInStop (s : State) : Prop :=
  s.cpu.lock = false ∧ s.cpu.stop = true ∧ ∀ x ∈ s.extIrq, x.joypad = false

/-- The end of a run at `done` (rule R455), `END_OF_RUN`: the bytes `18 FE` stand at `done`, and the run is at it. -/
def State.Ended (done : Addr) (s : State) : Prop :=
  s.read done = 0x18 ∧ s.read (done + 1) = 0xFE ∧ s.cpu.pc = done ∧ s.cpu.lock = false ∧ s.cpu.halt = false ∧
    s.cpu.stop = false ∧ (s.cpu.ime = false ∨ s.irq.ie.extractLsb' 0 5 = 0)

/-! ### The invariant -/

/-- The keys that `State.mem` may list: the addresses of VRAM, WRAM, OAM and HRAM (rule R51). -/
def ownedKey (n : Nat) : Bool :=
  (decide (0x8000 ≤ n) && decide (n < 0xA000)) || (decide (0xC000 ≤ n) && decide (n < 0xE000)) ||
    (decide (0xFE00 ≤ n) && decide (n < 0xFEA0)) || (decide (0xFF80 ≤ n) && decide (n < 0xFFFF))

/-- The mode that rules R372 to R374 give a line and a dot. -/
def modeAt (ly dots : Nat) : PpuMode :=
  if 144 ≤ ly then .vblank
  else if dots < 80 then .oamScan
  else if dots < 252 then .draw
  else .hblank

/-- What rules R49, R370 to R379 say of the PPU: with the LCD on, mode, line and LYC flag belong together; with it off,
the PPU stands at line 0, dot 0, mode 0. -/
structure Ppu.Ok (p : Ppu) : Prop where
  line : p.ly < 154
  dot : p.dots < 456
  on : p.lcdOn = true → p.mode = modeAt p.ly p.dots ∧ p.lycFlag = decide (p.ly = p.lyc.toNat)
  off : p.lcdOn = false → p.mode = .hblank ∧ p.ly = 0 ∧ p.dots = 0
  frame : Store.wf p.framebuffer = true
  pixels : Store.below (160 * 144) p.framebuffer = true

/-- What rules R40, R361 to R364 say of a pending reload: it is at most 4 T-cycles away, TIMA is 0 until then, and `div`
has left the multiple of the period at which TIMA overflowed no longer ago than that. -/
structure Timer.Ok (t : Timer) : Prop where
  bound : t.reload ≤ 4
  waiting : 0 < t.reload → t.tima = 0 ∧ t.div.toNat % 16 + t.reload ≤ 4

/-- What rules R95, R97, R98, R100 say of the bank registers: the ones that cannot select bank 0 do not, and MBC2 has
its 512 half-bytes. -/
def Cartridge.banksOk (c : Cartridge) : Prop :=
  match c.mbc with
  | .none => True
  | .mbc1 m => m.romBank ≠ 0
  | .mbc2 m => m.romBank ≠ 0 ∧ c.extRamLen = 0x200 ∧ c.extRam.all (fun e => decide (e.2.toNat < 16)) = true
  | .mbc3 m => m.romBank ≠ 0
  | .mbc5 m => c.rumbleCart = true → m.ramBank.toNat < 8

/-- What holds of the cartridge (rules R52, R90, R93). -/
structure Cartridge.Ok (c : Cartridge) : Prop where
  rom : Memory.wf c.rom = true
  size : 0x8000 ≤ c.romLen ∧ c.romLen % 0x4000 = 0
  ram : Memory.wf c.extRam = true
  ramSize : Store.below c.extRamLen c.extRam = true
  banks : c.banksOk

/-- The invariant of the machine: every memory is in its canonical form and lists only bytes that exist, the peripherals
are in a state that their rules allow, and the HALT bug waits only where `HALT_BUG` is true (rule R31). -/
structure State.Inv (s : State) : Prop where
  mem : Memory.wf s.mem = true
  owned : s.mem.all (fun e => ownedKey e.1) = true
  ppu : s.ppu.Ok
  timer : s.timer.Ok
  cart : s.cart.Ok
  haltBug : s.params.haltBug = false → s.cpu.haltBug = false

/-! ### What an instruction stores to -/

/-- The two bytes that the next push writes (rule R13). -/
def State.stackSlot (s : State) : List Addr := [s.cpu.sp - 2, s.cpu.sp - 1]

end Machine

open Machine

/-- The addresses that an instruction stores to from a state, in the order of the stores: the addresses of the pseudocode
of rules R164 to R177, R191, R194, R220, R222, R265, R285, R286 and R291. -/
def Instr.stores (i : Instr) (s : State) : List Addr :=
  match i with
  | .ld_iHL_B | .ld_iHL_C | .ld_iHL_D | .ld_iHL_E | .ld_iHL_H | .ld_iHL_L | .ld_iHL_A | .ld_iHL_n8 _
  | .ld_iHLinc_A | .ld_iHLdec_A | .inc_iHL | .dec_iHL | .rlc_iHL | .rrc_iHL | .rl_iHL | .rr_iHL | .sla_iHL
  | .sra_iHL | .swap_iHL | .srl_iHL | .res_0_iHL | .res_1_iHL | .res_2_iHL | .res_3_iHL | .res_4_iHL
  | .res_5_iHL | .res_6_iHL | .res_7_iHL | .set_0_iHL | .set_1_iHL | .set_2_iHL | .set_3_iHL | .set_4_iHL
  | .set_5_iHL | .set_6_iHL | .set_7_iHL => [s.hl]
  | .prefixCb cb => if fieldZ cb = 6 ∧ fieldX cb ≠ 1 then [s.hl] else []
  | .ld_iBC_A => [s.bc]
  | .ld_iDE_A => [s.de]
  | .ld_ia16_A a => [a]
  | .ld_ia16_SP a => [a, a + 1]
  | .ldh_ia8_A n => [highPage n]
  | .ldh_iC_A => [highPage s.cpu.c]
  | .push_BC | .push_DE | .push_HL | .push_AF | .call_a16 _ | .rst_00 | .rst_08 | .rst_10 | .rst_18 | .rst_20
  | .rst_28 | .rst_30 | .rst_38 => s.stackSlot
  | .call_NZ_a16 _ => if s.cond .nz then s.stackSlot else []
  | .call_Z_a16 _ => if s.cond .z then s.stackSlot else []
  | .call_NC_a16 _ => if s.cond .nc then s.stackSlot else []
  | .call_C_a16 _ => if s.cond .c then s.stackSlot else []
  | _ => []

namespace Machine

/-- Which addresses may read differently after a store to the I/O register at `a`: itself, and what rules R87, R88,
R376, R378 and R379 add for DMA, LCDC and LYC. A store to LY, to an out-of-scope register or to an unrouted address
changes nothing. -/
def ioTouches (a b : Addr) : Bool :=
  match ioReg a with
  | .dma => decide (b = a) || decide (region b = .oam)
  | .lcdc =>
    decide (b = 0xFF40) || decide (b = 0xFF41) || decide (b = 0xFF44) || decide (b = 0xFF0F) ||
      decide (region b = .vram) || decide (region b = .oam)
  | .lyc => decide (b = 0xFF45) || decide (b = 0xFF41) || decide (b = 0xFF0F)
  | .ly => false
  | .external => false
  | .inert => false
  | .unrouted => false
  | _ => decide (b = a)

/-- Whether an address lies in VRAM, WRAM, its echo, OAM or HRAM. -/
def isMemory (a : Addr) : Bool := ownedKey (memKey a)

/-- Whether an address lies in WRAM, its echo, or HRAM: memory that the CPU reaches at any time (rules R72, R88). -/
def isWorkRam (a : Addr) : Bool :=
  decide (region a = .wram) || decide (region a = .echo) || decide (region a = .hram)

/-- The PPU's place in the frame, in dots (rule R377). -/
def Ppu.position (p : Ppu) : Nat := 456 * p.ly + p.dots

/-- `n` ticks of the timer alone (rule R361). -/
def Timer.ticks : Nat → Timer → Timer
  | 0, t => t
  | n + 1, t => Timer.ticks n t.tick.1

/-- `n` dots of the PPU alone over a memory (rule R371). -/
def Ppu.dotTimes : Nat → Memory → Ppu → Ppu
  | 0, _, p => p
  | n + 1, mem, p => Ppu.dotTimes n mem (p.dot mem).1

/-- Which addresses may read differently after a store to `a`, by the rows of rule R72: a bank register may change what
the ROM and the external RAM window show, a memory byte is seen at its own address and at its echo. -/
def touches (a b : Addr) : Bool :=
  match region a with
  | .rom => decide (region b = .rom) || decide (region b = .extRam)
  | .extRam => decide (region b = .extRam)
  | .unusable => false
  | .io => ioTouches a b
  | .ie => decide (b = 0xFFFF)
  | _ => isMemory b && decide (memKey a = memKey b)

end Machine

end Sys2Proof
end

