-- ==== Sys2Proof/Certificates/Slice0/Obligations.lean ====
section
/-! DEFINITION. The statements about the machine, for the provers. An instruction's statement gives its bytes (the
opcode columns of 30_encoding.md) and the exact next state: what a record update does not name is unchanged, and stores
are bus writes at the address the statement computes. PC is already past the instruction when exec runs. -/

open Sys2Proof Sys2Proof.Machine

/-! ### 8-bit loads (40_load8.md) -/

/-- R133: the table `r8`, what each of its operands reads and writes. R161 to R165: `LD` between registers, the byte at HL
and an immediate byte. The stores of the (HL) forms are at HL. -/
def Obligations.EightBitLoads : Prop :=
  (∀ (dst src : R8) (s : State), dst ≠ .indHL → src ≠ .indHL →
      encode (Row.ld dst src) = [BitVec.ofNat 8 (0x40 + 8 * dst.number + src.number)] ∧
        exec (Row.ld dst src) s = .next { s.writeR8 dst (s.readR8 src) with cycles := 4 }) ∧
    (∀ (r : R8) (s : State), r ≠ .indHL →
      encode (Row.ld r .indHL) = [BitVec.ofNat 8 (0x46 + 8 * r.number)] ∧
        exec (Row.ld r .indHL) s = .next { s.writeR8 r (s.read s.hl) with cycles := 8 } ∧
        encode (Row.ld .indHL r) = [BitVec.ofNat 8 (0x70 + r.number)] ∧
        exec (Row.ld .indHL r) s = .next { s.write s.hl (s.readR8 r) with cycles := 8 }) ∧
    (∀ (r : R8) (n : Byte) (s : State),
      encode (Row.ldImm r n) = [BitVec.ofNat 8 (0x06 + 8 * r.number), n] ∧
        (r ≠ .indHL → exec (Row.ldImm r n) s = .next { s.writeR8 r n with cycles := 8 }) ∧
        exec (.ld_iHL_n8 n) s = .next { s.write s.hl n with cycles := 12 } ∧ Row.ldImm .indHL n = .ld_iHL_n8 n) ∧
    (∀ (s : State) (v : Byte),
      s.hl = joinBytes s.cpu.h s.cpu.l ∧
        s.readR8 .b = s.cpu.b ∧ s.writeR8 .b v = { s with cpu.b := v } ∧
        s.readR8 .c = s.cpu.c ∧ s.writeR8 .c v = { s with cpu.c := v } ∧
        s.readR8 .d = s.cpu.d ∧ s.writeR8 .d v = { s with cpu.d := v } ∧
        s.readR8 .e = s.cpu.e ∧ s.writeR8 .e v = { s with cpu.e := v } ∧
        s.readR8 .h = s.cpu.h ∧ s.writeR8 .h v = { s with cpu.h := v } ∧
        s.readR8 .l = s.cpu.l ∧ s.writeR8 .l v = { s with cpu.l := v } ∧
        s.readR8 .indHL = s.read s.hl ∧ s.writeR8 .indHL v = s.write s.hl v ∧
        s.readR8 .a = s.cpu.a ∧ s.writeR8 .a v = { s with cpu.a := v }) ∧
    [R8.b, .c, .d, .e, .h, .l, .indHL, .a].map R8.number = List.range 8 ∧
    (List.range 8).map r8Index = [.b, .c, .d, .e, .h, .l, .indHL, .a]

/-- R166 to R169, R176 to R179: A through BC, DE and HL, with HL stepped after the access. -/
def Obligations.LoadAndStoreThroughPairs : Prop :=
  (∀ s : State,
      exec .ld_A_iBC s = .next { s with cpu.a := s.read (joinBytes s.cpu.b s.cpu.c), cycles := 8 } ∧
        exec .ld_A_iDE s = .next { s with cpu.a := s.read (joinBytes s.cpu.d s.cpu.e), cycles := 8 } ∧
        exec .ld_iBC_A s = .next { s.write (joinBytes s.cpu.b s.cpu.c) s.cpu.a with cycles := 8 } ∧
        exec .ld_iDE_A s = .next { s.write (joinBytes s.cpu.d s.cpu.e) s.cpu.a with cycles := 8 } ∧
        encode .ld_A_iBC = [0x0A] ∧ encode .ld_iBC_A = [0x02] ∧ encode .ld_A_iDE = [0x1A] ∧ encode .ld_iDE_A = [0x12]) ∧
    (∀ s : State,
      let up := s.hl + 1
      let down := s.hl - 1
      exec .ld_iHLinc_A s =
          .next { s.write s.hl s.cpu.a with cpu := { s.cpu with h := hiByte up, l := loByte up }, cycles := 8 } ∧
        exec .ld_iHLdec_A s =
          .next { s.write s.hl s.cpu.a with cpu := { s.cpu with h := hiByte down, l := loByte down }, cycles := 8 } ∧
        exec .ld_A_iHLinc s =
          .next { s with cpu.a := s.read s.hl, cpu.h := hiByte up, cpu.l := loByte up, cycles := 8 } ∧
        exec .ld_A_iHLdec s =
          .next { s with cpu.a := s.read s.hl, cpu.h := hiByte down, cpu.l := loByte down, cycles := 8 } ∧
        encode .ld_iHLinc_A = [0x22] ∧ encode .ld_iHLdec_A = [0x32] ∧ encode .ld_A_iHLinc = [0x2A] ∧
        encode .ld_A_iHLdec = [0x3A])

/-- R170 to R175: A at an absolute address and in the high page. -/
def Obligations.LoadAndStoreAtAddress : Prop :=
  ∀ (s : State) (a : Addr) (n : Byte),
    exec (.ld_A_ia16 a) s = .next { s with cpu.a := s.read a, cycles := 16 } ∧
      exec (.ld_ia16_A a) s = .next { s.write a s.cpu.a with cycles := 16 } ∧
      exec (.ldh_A_ia8 n) s = .next { s with cpu.a := s.read (BitVec.ofNat 16 (0xFF00 + n.toNat)), cycles := 12 } ∧
      exec (.ldh_ia8_A n) s = .next { s.write (BitVec.ofNat 16 (0xFF00 + n.toNat)) s.cpu.a with cycles := 12 } ∧
      exec .ldh_A_iC s = .next { s with cpu.a := s.read (BitVec.ofNat 16 (0xFF00 + s.cpu.c.toNat)), cycles := 8 } ∧
      exec .ldh_iC_A s = .next { s.write (BitVec.ofNat 16 (0xFF00 + s.cpu.c.toNat)) s.cpu.a with cycles := 8 } ∧
      encode (.ld_A_ia16 a) = [0xFA, loByte a, hiByte a] ∧ encode (.ld_ia16_A a) = [0xEA, loByte a, hiByte a] ∧
      encode (.ldh_A_ia8 n) = [0xF0, n] ∧ encode (.ldh_ia8_A n) = [0xE0, n] ∧ encode .ldh_A_iC = [0xF2] ∧
      encode .ldh_iC_A = [0xE2]

/-! ### 16-bit loads and the stack (41_load16_stack.md) -/

/-- R190, R191, R192: `LD rr,n16`, `LD (a16),SP`, `LD SP,HL`. -/
def Obligations.LoadAndStoreWords : Prop :=
  ∀ (s : State) (n : Addr),
    (∀ r : R16, encode (Row.ldPair r n) = [BitVec.ofNat 8 (0x01 + 16 * r.number), loByte n, hiByte n]) ∧
      exec (.ld_BC_n16 n) s = .next { s with cpu.b := hiByte n, cpu.c := loByte n, cycles := 12 } ∧
      exec (.ld_DE_n16 n) s = .next { s with cpu.d := hiByte n, cpu.e := loByte n, cycles := 12 } ∧
      exec (.ld_HL_n16 n) s = .next { s with cpu.h := hiByte n, cpu.l := loByte n, cycles := 12 } ∧
      exec (.ld_SP_n16 n) s = .next { s with cpu.sp := n, cycles := 12 } ∧
      exec (.ld_ia16_SP n) s =
        .next { (s.write n (loByte s.cpu.sp)).write (n + 1) (hiByte s.cpu.sp) with cycles := 20 } ∧
      exec .ld_SP_HL s = .next { s with cpu.sp := joinBytes s.cpu.h s.cpu.l, cycles := 8 } ∧
      encode (.ld_ia16_SP n) = [0x08, loByte n, hiByte n] ∧ encode .ld_SP_HL = [0xF9]

/-- R193, R243: `LD HL,SP+e8` and `ADD SP,e8`, with their flags from SP's low byte and the raw byte. -/
def Obligations.StackPointerPlusOffset : Prop :=
  ∀ (s : State) (e : Byte),
    let sum : Addr := s.cpu.sp + e.signExtend 16
    let flags : Flags :=
      { z := false, n := false
        h := decide (s.cpu.sp.toNat % 16 + e.toNat % 16 > 0x0F)
        cy := decide (s.cpu.sp.toNat % 256 + e.toNat > 0xFF) }
    exec (.ld_HL_SPe8 e) s =
        .next { s with cpu.h := hiByte sum, cpu.l := loByte sum, cpu.flags := flags, cycles := 12 } ∧
      exec (.add_SP_e8 e) s = .next { s with cpu.sp := sum, cpu.flags := flags, cycles := 16 } ∧
      encode (.ld_HL_SPe8 e) = [0xF8, e] ∧ encode (.add_SP_e8 e) = [0xE8, e]

/-- R194 to R197: `PUSH` and `POP`. The two stores are at SP - 2 (the low register) and at SP - 1 (the high register); POP AF
takes its flags from bits 7 to 4 of the popped byte. -/
def Obligations.PushAndPop : Prop :=
  (∀ s : State,
      let pushed (hi lo : Byte) : State :=
        { (s.write (s.cpu.sp - 2) lo).write (s.cpu.sp - 1) hi with
          cpu := { s.cpu with sp := s.cpu.sp - 2 }, cycles := 16 }
      exec .push_BC s = .next (pushed s.cpu.b s.cpu.c) ∧ exec .push_DE s = .next (pushed s.cpu.d s.cpu.e) ∧
        exec .push_HL s = .next (pushed s.cpu.h s.cpu.l) ∧ exec .push_AF s = .next (pushed s.cpu.a s.f) ∧
        ∀ r : R16Stk, encode (Row.push r) = [BitVec.ofNat 8 (0xC5 + 16 * r.number)]) ∧
    (∀ s : State,
      let lo := s.read s.cpu.sp
      let hi := s.read (s.cpu.sp + 1)
      exec .pop_BC s = .next { s with cpu.b := hi, cpu.c := lo, cpu.sp := s.cpu.sp + 2, cycles := 12 } ∧
        exec .pop_DE s = .next { s with cpu.d := hi, cpu.e := lo, cpu.sp := s.cpu.sp + 2, cycles := 12 } ∧
        exec .pop_HL s = .next { s with cpu.h := hi, cpu.l := lo, cpu.sp := s.cpu.sp + 2, cycles := 12 } ∧
        exec .pop_AF s =
          .next { s with
            cpu.a := hi
            cpu.flags := { z := lo.getLsbD 7, n := lo.getLsbD 6, h := lo.getLsbD 5, cy := lo.getLsbD 4 }
            cpu.sp := s.cpu.sp + 2
            cycles := 12 } ∧
        ∀ r : R16Stk, encode (Row.pop r) = [BitVec.ofNat 8 (0xC1 + 16 * r.number)])

/-! ### 8-bit arithmetic (42_alu8.md) -/

/-- R211, R212: `ADD A,s` and `ADC A,s`, for the operand forms of R210. -/
def Obligations.AddAndAddWithCarry : Prop :=
  ∀ s : State,
    let result (v : Byte) (c : Nat) (n : Nat) : State :=
      let sum := s.cpu.a.toNat + v.toNat + c
      { s with
        cpu.a := BitVec.ofNat 8 sum
        cpu.flags :=
          { z := decide (sum % 256 = 0), n := false
            h := decide (s.cpu.a.toNat % 16 + v.toNat % 16 + c > 0x0F), cy := decide (sum > 0xFF) }
        cycles := n }
    let c := if s.cpu.flags.cy then 1 else 0
    (∀ r : R8,
        exec (Row.alu .add r) s = .next (result (s.readR8 r) 0 (if r = .indHL then 8 else 4)) ∧
          exec (Row.alu .adc r) s = .next (result (s.readR8 r) c (if r = .indHL then 8 else 4)) ∧
          encode (Row.alu .add r) = [BitVec.ofNat 8 (0x80 + r.number)] ∧
          encode (Row.alu .adc r) = [BitVec.ofNat 8 (0x88 + r.number)]) ∧
      ∀ v : Byte,
        exec (.add_A_n8 v) s = .next (result v 0 8) ∧ exec (.adc_A_n8 v) s = .next (result v c 8) ∧
          encode (.add_A_n8 v) = [0xC6, v] ∧ encode (.adc_A_n8 v) = [0xCE, v]

/-- R213, R214, R218: `SUB A,s`, `SBC A,s` and `CP A,s`, for the operand forms of R210. -/
def Obligations.SubtractAndCompare : Prop :=
  ∀ s : State,
    let flags (v : Byte) (c : Nat) : Flags :=
      { z := decide ((s.cpu.a.toNat + 512 - v.toNat - c) % 256 = 0), n := true
        h := decide (s.cpu.a.toNat % 16 < v.toNat % 16 + c), cy := decide (s.cpu.a.toNat < v.toNat + c) }
    let result (v : Byte) (c : Nat) (n : Nat) : State :=
      { s with cpu.a := BitVec.ofNat 8 (s.cpu.a.toNat + 512 - v.toNat - c), cpu.flags := flags v c, cycles := n }
    let c := if s.cpu.flags.cy then 1 else 0
    (∀ r : R8,
        let n := if r = .indHL then 8 else 4
        exec (Row.alu .sub r) s = .next (result (s.readR8 r) 0 n) ∧
          exec (Row.alu .sbc r) s = .next (result (s.readR8 r) c n) ∧
          exec (Row.alu .cp r) s = .next { s with cpu.flags := flags (s.readR8 r) 0, cycles := n } ∧
          encode (Row.alu .sub r) = [BitVec.ofNat 8 (0x90 + r.number)] ∧
          encode (Row.alu .sbc r) = [BitVec.ofNat 8 (0x98 + r.number)] ∧
          encode (Row.alu .cp r) = [BitVec.ofNat 8 (0xB8 + r.number)]) ∧
      ∀ v : Byte,
        exec (.sub_A_n8 v) s = .next (result v 0 8) ∧ exec (.sbc_A_n8 v) s = .next (result v c 8) ∧
          exec (.cp_A_n8 v) s = .next { s with cpu.flags := flags v 0, cycles := 8 } ∧
          encode (.sub_A_n8 v) = [0xD6, v] ∧ encode (.sbc_A_n8 v) = [0xDE, v] ∧ encode (.cp_A_n8 v) = [0xFE, v]

/-- R215, R216, R217: `AND A,s`, `XOR A,s` and `OR A,s`, for the operand forms of R210. -/
def Obligations.LogicOperations : Prop :=
  ∀ s : State,
    let result (a : Byte) (h : Bool) (n : Nat) : State :=
      { s with cpu.a := a, cpu.flags := { z := decide (a = 0), n := false, h := h, cy := false }, cycles := n }
    (∀ r : R8,
        let n := if r = .indHL then 8 else 4
        exec (Row.alu .and r) s = .next (result (s.cpu.a &&& s.readR8 r) true n) ∧
          exec (Row.alu .xor r) s = .next (result (s.cpu.a ^^^ s.readR8 r) false n) ∧
          exec (Row.alu .or r) s = .next (result (s.cpu.a ||| s.readR8 r) false n) ∧
          encode (Row.alu .and r) = [BitVec.ofNat 8 (0xA0 + r.number)] ∧
          encode (Row.alu .xor r) = [BitVec.ofNat 8 (0xA8 + r.number)] ∧
          encode (Row.alu .or r) = [BitVec.ofNat 8 (0xB0 + r.number)]) ∧
      ∀ v : Byte,
        exec (.and_A_n8 v) s = .next (result (s.cpu.a &&& v) true 8) ∧
          exec (.xor_A_n8 v) s = .next (result (s.cpu.a ^^^ v) false 8) ∧
          exec (.or_A_n8 v) s = .next (result (s.cpu.a ||| v) false 8) ∧
          encode (.and_A_n8 v) = [0xE6, v] ∧ encode (.xor_A_n8 v) = [0xEE, v] ∧ encode (.or_A_n8 v) = [0xF6, v]

/-- R219 to R222: `INC` and `DEC` of a register or of the byte at HL. The store of the (HL) form is at HL; CY keeps its
value. -/
def Obligations.IncrementAndDecrementByte : Prop :=
  ∀ (r : R8) (s : State),
    let v := s.readR8 r
    let n := if r = .indHL then 12 else 4
    exec (Row.inc r) s =
        .next { s.writeR8 r (BitVec.ofNat 8 (v.toNat + 1)) with
          cpu.flags :=
            { z := decide ((v.toNat + 1) % 256 = 0), n := false, h := decide (v.toNat % 16 = 0x0F)
              cy := s.cpu.flags.cy }
          cycles := n } ∧
      exec (Row.dec r) s =
        .next { s.writeR8 r (BitVec.ofNat 8 (v.toNat + 255)) with
          cpu.flags :=
            { z := decide ((v.toNat + 255) % 256 = 0), n := true, h := decide (v.toNat % 16 = 0)
              cy := s.cpu.flags.cy }
          cycles := n } ∧
      encode (Row.inc r) = [BitVec.ofNat 8 (0x04 + 8 * r.number)] ∧
      encode (Row.dec r) = [BitVec.ofNat 8 (0x05 + 8 * r.number)]

/-- R223 to R226: `DAA`, its pseudocode on numbers, and `CPL`, `SCF`, `CCF`. -/
def Obligations.AdjustAndComplement : Prop :=
  (∀ s : State,
      let a := s.cpu.a.toNat
      let f := s.cpu.flags
      let low := if f.h = true ∨ f.n = false ∧ a % 16 > 0x09 then 0x06 else 0
      let high := if f.cy = true ∨ f.n = false ∧ a > 0x99 then 0x60 else 0
      let r := if f.n then (a + 256 - (low + high)) % 256 else (a + (low + high)) % 256
      exec .daa s =
          .next { s with
            cpu.a := BitVec.ofNat 8 r
            cpu.flags := { z := decide (r = 0), n := f.n, h := false, cy := f.cy || (!f.n && decide (a > 0x99)) }
            cycles := 4 } ∧
        encode .daa = [0x27]) ∧
    (∀ s : State,
      exec .cpl s =
          .next { s with cpu.a := ~~~s.cpu.a, cpu.flags := { s.cpu.flags with n := true, h := true }, cycles := 4 } ∧
        exec .scf s = .next { s with cpu.flags := { s.cpu.flags with n := false, h := false, cy := true }, cycles := 4 } ∧
        exec .ccf s =
          .next { s with cpu.flags := { s.cpu.flags with n := false, h := false, cy := !s.cpu.flags.cy }, cycles := 4 } ∧
        encode .cpl = [0x2F] ∧ encode .scf = [0x37] ∧ encode .ccf = [0x3F])

/-! ### 16-bit arithmetic (43_alu16.md) -/

/-- R134: the table `r16`, what each of its pairs reads and writes. R240, R241, R242: `ADD HL,rr`, `INC rr`, `DEC rr`. -/
def Obligations.WordArithmetic : Prop :=
  (∀ (r : R16) (s : State),
    let v := s.readR16 r
    let sum := s.hl.toNat + v.toNat
    exec (Row.addHl r) s =
        .next { s with
          cpu.h := hiByte (BitVec.ofNat 16 sum)
          cpu.l := loByte (BitVec.ofNat 16 sum)
          cpu.flags :=
            { z := s.cpu.flags.z, n := false, h := decide (s.hl.toNat % 4096 + v.toNat % 4096 > 0x0FFF)
              cy := decide (sum > 0xFFFF) }
          cycles := 8 } ∧
      exec (Row.incPair r) s = .next { s.writeR16 r (BitVec.ofNat 16 (v.toNat + 1)) with cycles := 8 } ∧
      exec (Row.decPair r) s = .next { s.writeR16 r (BitVec.ofNat 16 (v.toNat + 65535)) with cycles := 8 } ∧
      encode (Row.addHl r) = [BitVec.ofNat 8 (0x09 + 16 * r.number)] ∧
      encode (Row.incPair r) = [BitVec.ofNat 8 (0x03 + 16 * r.number)] ∧
      encode (Row.decPair r) = [BitVec.ofNat 8 (0x0B + 16 * r.number)]) ∧
    (∀ (s : State) (v : Addr),
      s.hl = s.readR16 .hl ∧
        s.readR16 .bc = joinBytes s.cpu.b s.cpu.c ∧
        s.writeR16 .bc v = { s with cpu.b := hiByte v, cpu.c := loByte v } ∧
        s.readR16 .de = joinBytes s.cpu.d s.cpu.e ∧
        s.writeR16 .de v = { s with cpu.d := hiByte v, cpu.e := loByte v } ∧
        s.readR16 .hl = joinBytes s.cpu.h s.cpu.l ∧
        s.writeR16 .hl v = { s with cpu.h := hiByte v, cpu.l := loByte v } ∧
        s.readR16 .sp = s.cpu.sp ∧ s.writeR16 .sp v = { s with cpu.sp := v }) ∧
    [R16.bc, .de, .hl, .sp].map R16.number = List.range 4 ∧ (List.range 4).map r16Index = [.bc, .de, .hl, .sp]

/-! ### Rotates, shifts and bits (44_rotate_shift_bit.md) -/

/-- R250 to R261: the rotates of A, and the CB rotates and shifts of a register or of the byte at HL, on numbers. The store
of the (HL) form is at HL. -/
def Obligations.RotateAndShift : Prop :=
  (∀ s : State,
      let a := s.cpu.a.toNat
      let c := if s.cpu.flags.cy then 1 else 0
      let result (r out : Nat) : State :=
        { s with
          cpu.a := BitVec.ofNat 8 r
          cpu.flags := { z := false, n := false, h := false, cy := decide (out = 1) }
          cycles := 4 }
      exec .rlca s = .next (result (2 * a + a / 128) (a / 128)) ∧
        exec .rrca s = .next (result (a / 2 + 128 * (a % 2)) (a % 2)) ∧
        exec .rla s = .next (result (2 * a + c) (a / 128)) ∧
        exec .rra s = .next (result (a / 2 + 128 * c) (a % 2)) ∧
        encode .rlca = [0x07] ∧ encode .rrca = [0x0F] ∧ encode .rla = [0x17] ∧ encode .rra = [0x1F]) ∧
    (∀ (r : R8) (s : State),
      let v := (s.readR8 r).toNat
      let c := if s.cpu.flags.cy then 1 else 0
      let result (w out : Nat) : State :=
        { s.writeR8 r (BitVec.ofNat 8 w) with
          cpu.flags := { z := decide (w % 256 = 0), n := false, h := false, cy := decide (out = 1) }
          cycles := if r = .indHL then 16 else 8 }
      exec (Row.rot .rlc r) s = .next (result (2 * v + v / 128) (v / 128)) ∧
        exec (Row.rot .rrc r) s = .next (result (v / 2 + 128 * (v % 2)) (v % 2)) ∧
        exec (Row.rot .rl r) s = .next (result (2 * v + c) (v / 128)) ∧
        exec (Row.rot .rr r) s = .next (result (v / 2 + 128 * c) (v % 2)) ∧
        exec (Row.rot .sla r) s = .next (result (2 * v) (v / 128)) ∧
        exec (Row.rot .sra r) s = .next (result (v / 2 + 128 * (v / 128)) (v % 2)) ∧
        exec (Row.rot .swap r) s = .next (result (16 * (v % 16) + v / 16) 0) ∧
        exec (Row.rot .srl r) s = .next (result (v / 2) (v % 2)) ∧
        ∀ op : RotOp, encode (Row.rot op r) = [0xCB, BitVec.ofNat 8 (8 * op.number + r.number)])

/-- R262, R263, R264: `BIT`, `RES`, `SET`, bit by bit. The store of the (HL) forms of RES and SET is at HL. -/
def Obligations.TestResetAndSetBit : Prop :=
  ∀ (b : Fin 8) (r : R8) (s : State),
    let v := s.readR8 r
    exec (Row.bit b r) s =
        .next { s with
          cpu.flags := { z := !v.getLsbD b, n := false, h := true, cy := s.cpu.flags.cy }
          cycles := if r = .indHL then 12 else 8 } ∧
      (∃ w : Byte, (∀ i, i < 8 → w.getLsbD i = (v.getLsbD i && decide (i ≠ b.val))) ∧
        exec (Row.res b r) s = .next { s.writeR8 r w with cycles := if r = .indHL then 16 else 8 }) ∧
      (∃ w : Byte, (∀ i, i < 8 → w.getLsbD i = (v.getLsbD i || decide (i = b.val))) ∧
        exec (Row.set b r) s = .next { s.writeR8 r w with cycles := if r = .indHL then 16 else 8 }) ∧
      encode (Row.bit b r) = [0xCB, BitVec.ofNat 8 (0x40 + 8 * b.val + r.number)] ∧
      encode (Row.res b r) = [0xCB, BitVec.ofNat 8 (0x80 + 8 * b.val + r.number)] ∧
      encode (Row.set b r) = [0xCB, BitVec.ofNat 8 (0xC0 + 8 * b.val + r.number)]

/-- R303: the row PREFIX CB does what the CB row of its second byte does. -/
def Obligations.PrefixCbRunsItsRow : Prop :=
  ∀ (cb : Byte) (s : State),
    encode (.prefixCb cb) = [0xCB, cb] ∧
      ∃ t, exec (.prefixCb cb) s = .next t ∧ exec (decodeCb cb) s = .next t

/-! ### Control transfer (45_control_flow.md) -/

/-- R280 to R284, R290: `JP` and `JR`, the latter from the PC after the instruction, and when a condition holds. -/
def Obligations.Jumps : Prop :=
  (∀ (s : State) (a : Addr),
      exec (.jp_a16 a) s = .next { s with cpu.pc := a, cycles := 16 } ∧
        exec .jp_HL s = .next { s with cpu.pc := joinBytes s.cpu.h s.cpu.l, cycles := 4 } ∧
        (∀ cc : Cond,
          exec (Row.jpCc cc a) s =
              (if cc.holds s.cpu.flags then .next { s with cpu.pc := a, cycles := 16 }
               else .next { s with cycles := 12 }) ∧
            encode (Row.jpCc cc a) = [BitVec.ofNat 8 (0xC2 + 8 * cc.number), loByte a, hiByte a]) ∧
        encode (.jp_a16 a) = [0xC3, loByte a, hiByte a] ∧ encode .jp_HL = [0xE9]) ∧
    (∀ (s : State) (e : Byte),
      let target : Addr := BitVec.ofNat 16 (s.cpu.pc.toNat + (if e.toNat < 128 then e.toNat else 0xFF00 + e.toNat))
      exec (.jr_e8 e) s = .next { s with cpu.pc := target, cycles := 12 } ∧
        (∀ cc : Cond,
          exec (Row.jrCc cc e) s =
              (if cc.holds s.cpu.flags then .next { s with cpu.pc := target, cycles := 12 }
               else .next { s with cycles := 8 }) ∧
            encode (Row.jrCc cc e) = [BitVec.ofNat 8 (0x20 + 8 * cc.number), e]) ∧
        encode (.jr_e8 e) = [0x18, e]) ∧
    (∀ f : Flags,
      (Cond.nz.holds f = true ↔ f.z = false) ∧ (Cond.z.holds f = true ↔ f.z = true) ∧
        (Cond.nc.holds f = true ↔ f.cy = false) ∧ (Cond.c.holds f = true ↔ f.cy = true))

/-- R285, R286, R291: `CALL a16`, `CALL cc,a16`, `RST n`. The two stores are at SP - 2 (PC's low byte) and at SP - 1. -/
def Obligations.Calls : Prop :=
  ∀ (s : State) (a : Addr),
    let called (target : Addr) (n : Nat) : State :=
      { (s.write (s.cpu.sp - 2) (loByte s.cpu.pc)).write (s.cpu.sp - 1) (hiByte s.cpu.pc) with
        cpu := { s.cpu with sp := s.cpu.sp - 2, pc := target }, cycles := n }
    exec (.call_a16 a) s = .next (called a 24) ∧
      (∀ cc : Cond,
        exec (Row.callCc cc a) s =
            (if cc.holds s.cpu.flags then .next (called a 24) else .next { s with cycles := 12 }) ∧
          encode (Row.callCc cc a) = [BitVec.ofNat 8 (0xC4 + 8 * cc.number), loByte a, hiByte a]) ∧
      (∀ y : Fin 8,
        exec (Row.rst y) s = .next (called (BitVec.ofNat 16 (8 * y.val)) 16) ∧
          encode (Row.rst y) = [BitVec.ofNat 8 (0xC7 + 8 * y.val)]) ∧
      encode (.call_a16 a) = [0xCD, loByte a, hiByte a]

/-- R287, R288, R289: `RET`, `RET cc`, `RETI`. -/
def Obligations.Returns : Prop :=
  ∀ s : State,
    let target : Addr := joinBytes (s.read (s.cpu.sp + 1)) (s.read s.cpu.sp)
    exec .ret s = .next { s with cpu.pc := target, cpu.sp := s.cpu.sp + 2, cycles := 16 } ∧
      exec .reti s = .next { s with cpu.pc := target, cpu.sp := s.cpu.sp + 2, cpu.ime := true, cycles := 16 } ∧
      (∀ cc : Cond,
        exec (Row.retCc cc) s =
            (if cc.holds s.cpu.flags then .next { s with cpu.pc := target, cpu.sp := s.cpu.sp + 2, cycles := 20 }
             else .next { s with cycles := 8 }) ∧
          encode (Row.retCc cc) = [BitVec.ofNat 8 (0xC0 + 8 * cc.number)]) ∧
      encode .ret = [0xC9] ∧ encode .reti = [0xD9]

/-! ### CPU control (46_cpu_control.md) -/

/-- R300, R301, R302, R304, R305: `NOP`, `DI`, `EI`, `STOP`, and the three arms of `HALT`. -/
def Obligations.CpuControl : Prop :=
  (∀ (s : State) (pad : Byte),
      exec .nop s = .next { s with cycles := 4 } ∧
        exec .di s = .next { s with cpu.ime := false, cpu.imeEnableAfter := .none, cycles := 4 } ∧
        exec .ei s = .next { s with cpu.imeEnableAfter := .nextInstruction, cycles := 4 } ∧
        exec (.stop pad) s = .next { s with cpu.stop := true, cycles := 4 } ∧
        encode .nop = [0x00] ∧ encode .di = [0xF3] ∧ encode .ei = [0xFB] ∧ encode (.stop pad) = [0x10, pad]) ∧
    (∀ s : State,
      let pend := s.irq.ifr &&& s.irq.ie.extractLsb' 0 5
      (s.cpu.ime = false ∧ pend ≠ 0 ∧ s.params.haltBug = true →
          exec .halt s = .next { s with cpu.haltBug := true, cycles := 4 }) ∧
        (s.cpu.ime = false ∧ pend ≠ 0 ∧ s.params.haltBug = false → exec .halt s = .next { s with cycles := 4 }) ∧
        (¬ (s.cpu.ime = false ∧ pend ≠ 0) → exec .halt s = .next { s with cpu.halt := true, cycles := 4 }) ∧
        encode .halt = [0x76])

/-- R141, R306: an undefined opcode raises IllegalOpcode, whose one effect is the lock; the eleven undefined bytes, and no
other byte, decode to an undefined opcode, whatever follows; each is one byte long. That exec answers a next state here
and no fault is the model's choice (log 19). -/
def Obligations.UndefinedOpcodes : Prop :=
  (∀ (s : State) (i : Instr),
      i ∈ [Instr.illegal_D3, .illegal_DB, .illegal_DD, .illegal_E3, .illegal_E4, .illegal_EB, .illegal_EC, .illegal_ED,
          .illegal_F4, .illegal_FC, .illegal_FD] →
        exec i s = .next { s with cpu.lock := true, cycles := 4 }) ∧
    (∀ op b1 b2 : Byte,
      (decodeOp op b1 b2 ∈ [Instr.illegal_D3, .illegal_DB, .illegal_DD, .illegal_E3, .illegal_E4, .illegal_EB,
          .illegal_EC, .illegal_ED, .illegal_F4, .illegal_FC, .illegal_FD]) ↔
        op ∈ [0xD3, 0xDB, 0xDD, 0xE3, 0xE4, 0xEB, 0xEC, 0xED, 0xF4, 0xFC, 0xFD]) ∧
    (∀ op : Byte, op ∈ [0xD3, 0xDB, 0xDD, 0xE3, 0xE4, 0xEB, 0xEC, 0xED, 0xF4, 0xFC, 0xFD] → operandCount op = 0)

/-! ### Frames over all instructions -/

/-- What an instruction stores to is all it can change on the bus: every other address reads as before. The addresses
stored to are `Instr.stores`, and `touches` says which reads a store to one address can change (rule R72). An
instruction that stores nothing leaves memory, the cartridge, the timer, the PPU and the interrupt registers. -/
def Obligations.StoresAreTheFrame : Prop :=
  (∀ (i : Instr) (s t : State) (b : Addr), exec i s = .next t →
      (∀ a ∈ i.stores s, touches a b = false) → t.read b = s.read b) ∧
    (∀ (i : Instr) (s t : State), exec i s = .next t → i.stores s = [] →
      t.mem = s.mem ∧ t.cart = s.cart ∧ t.timer = s.timer ∧ t.ppu = s.ppu ∧ t.irq = s.irq ∧ t.params = s.params ∧
        t.extIrq = s.extIrq ∧ t.draws = s.draws)

/-- R26: the instructions that write no flag, among them every load but `LD HL,SP+e8`. -/
def Obligations.FlagsLeftAlone : Prop :=
  ∀ (i : Instr) (s t : State), exec i s = .next t →
    ((∃ x y, i = Row.ld x y) ∨ (∃ x n, i = Row.ldImm x n) ∨ (∃ p, i = Row.storeMem p) ∨ (∃ p, i = Row.loadMem p) ∨
      (∃ a, i = .ld_A_ia16 a ∨ i = .ld_ia16_A a ∨ i = .ld_ia16_SP a ∨ i = .jp_a16 a ∨ i = .call_a16 a) ∨
      (∃ n, i = .ldh_A_ia8 n ∨ i = .ldh_ia8_A n ∨ i = .jr_e8 n ∨ i = .stop n) ∨
      (∃ x n, i = Row.ldPair x n) ∨ (∃ x, i = Row.push x) ∨ (∃ x, x ≠ .af ∧ i = Row.pop x) ∨
      (∃ x, i = Row.incPair x ∨ i = Row.decPair x) ∨
      (∃ cc n, i = Row.jrCc cc n) ∨ (∃ cc a, i = Row.jpCc cc a ∨ i = Row.callCc cc a) ∨ (∃ cc, i = Row.retCc cc) ∨
      (∃ y, i = Row.rst y) ∨ (∃ b x, i = Row.res b x ∨ i = Row.set b x) ∨
      i ∈ [Instr.ldh_A_iC, .ldh_iC_A, .ld_SP_HL, .jp_HL, .ret, .reti, .nop, .halt, .di, .ei]) →
    t.cpu.flags = s.cpu.flags

/-! ### Encoding -/

/-- Words written out from the opcode columns of rules R138 to R142, at least one of each family, and R143: the length of
an instruction from its opcode byte. -/
def Obligations.SampleWordsAndLengths : Prop :=
  (decode [0b01_010_011#8] = .ok (.ld_D_E, []) ∧
      decode [0b01_110_111#8] = .ok (.ld_iHL_A, []) ∧
      decode [0b00_111_110#8, 0x7F] = .ok (.ld_A_n8 0x7F, []) ∧
      decode [0b00_110_001#8, 0xFF, 0xDF] = .ok (.ld_SP_n16 0xDFFF, []) ∧
      decode [0b00_100_010#8] = .ok (.ld_iHLinc_A, []) ∧
      decode [0b11_100_000#8, 0x07] = .ok (.ldh_ia8_A 0x07, []) ∧
      decode [0b11_110_101#8] = .ok (.push_AF, []) ∧
      decode [0b10_011_100#8] = .ok (.sbc_A_H, []) ∧
      decode [0b11_111_110#8, 0x40] = .ok (.cp_A_n8 0x40, []) ∧
      decode [0b00_110_100#8] = .ok (.inc_iHL, []) ∧
      decode [0b00_111_001#8] = .ok (.add_HL_SP, []) ∧
      decode [0b00_011_111#8] = .ok (.rra, []) ∧
      decode [0xCB, 0b00_110_111#8] = .ok (.swap_A, []) ∧
      decode [0xCB, 0b01_111_110#8] = .ok (.bit_7_iHL, []) ∧
      decode [0xCB, 0b11_011_110#8] = .ok (.set_3_iHL, []) ∧
      decode [0b11_000_011#8, 0x50, 0x01] = .ok (.jp_a16 0x0150, []) ∧
      decode [0b00_110_000#8, 0xFD] = .ok (.jr_NC_e8 0xFD, []) ∧
      decode [0b11_101_111#8] = .ok (.rst_28, []) ∧
      decode [0b01_110_110#8] = .ok (.halt, []) ∧
      decode [0b00_010_000#8, 0x00] = .ok (.stop 0x00, []) ∧
      decode [0b11_011_101#8] = .ok (.illegal_DD, [])) ∧
    (∀ op : Byte,
      1 + operandCount op =
        if op ∈ [0x01, 0x11, 0x21, 0x31, 0x08, 0xC3, 0xC2, 0xCA, 0xD2, 0xDA, 0xCD, 0xC4, 0xCC, 0xD4, 0xDC, 0xEA, 0xFA]
        then 3
        else if op ∈ [0x06, 0x0E, 0x16, 0x1E, 0x26, 0x2E, 0x36, 0x3E, 0xC6, 0xCE, 0xD6, 0xDE, 0xE6, 0xEE, 0xF6, 0xFE,
          0x18, 0x20, 0x28, 0x30, 0x38, 0xE0, 0xF0, 0xE8, 0xF8, 0x10, 0xCB]
        then 2
        else 1)

/-- Decoding the bytes of any instruction gives it back, with every operand at every value, whatever bytes follow. -/
def Obligations.DecodeOfEncode : Prop :=
  ∀ (i : Instr) (rest : List Byte), i.wellFormed = true → decode (encode i ++ rest) = .ok (i, rest)

/-- R147: what decoding answers is well-formed and its bytes are the ones decoded; decoding fails on nothing but a list
that ends inside the instruction. -/
def Obligations.EncodeOfDecode : Prop :=
  ∀ bytes : List Byte,
    match decode bytes with
    | .ok (i, rest) => i.wellFormed = true ∧ encode i ++ rest = bytes
    | .error .empty => bytes = []
    | .error (.truncated op) => ∃ tail, bytes = op :: tail ∧ tail.length < operandCount op

/-! ### The bus (20_memory.md) -/

/-- R70, R71, R72, R88: what every address reads, and what a write to it does. -/
def Obligations.AddressMap : Prop :=
  (∀ (s : State) (a : Addr),
      (a.toNat < 0x8000 → s.read a = s.cart.readRom a) ∧
        (0x8000 ≤ a.toNat ∧ a.toNat < 0xA000 →
          s.read a =
            if s.params.ppuAccessRestrict = true ∧ s.ppu.lcdOn = true ∧ s.ppu.mode = .draw then 0xFF
            else Store.get s.mem a.toNat) ∧
        (0xA000 ≤ a.toNat ∧ a.toNat < 0xC000 → s.read a = s.cart.readRam a) ∧
        (0xC000 ≤ a.toNat ∧ a.toNat < 0xE000 → s.read a = Store.get s.mem a.toNat) ∧
        (0xE000 ≤ a.toNat ∧ a.toNat < 0xFE00 → s.read a = Store.get s.mem (a.toNat - 0x2000)) ∧
        (0xFE00 ≤ a.toNat ∧ a.toNat < 0xFEA0 →
          s.read a =
            if s.params.ppuAccessRestrict = true ∧ s.ppu.lcdOn = true ∧ (s.ppu.mode = .oamScan ∨ s.ppu.mode = .draw)
            then 0xFF
            else Store.get s.mem a.toNat) ∧
        (0xFEA0 ≤ a.toNat ∧ a.toNat < 0xFF00 → s.read a = 0xFF) ∧
        (0xFF00 ≤ a.toNat ∧ a.toNat < 0xFF80 → s.read a = s.readIo a) ∧
        (0xFF80 ≤ a.toNat ∧ a.toNat < 0xFFFF → s.read a = Store.get s.mem a.toNat) ∧
        (a.toNat = 0xFFFF → s.read a = s.irq.ie)) ∧
    (∀ (s : State) (a : Addr) (v : Byte),
      (a.toNat < 0x8000 → s.write a v = { s with cart := s.cart.writeRegister a v }) ∧
        (0x8000 ≤ a.toNat ∧ a.toNat < 0xA000 →
          s.write a v =
            if s.params.ppuAccessRestrict = true ∧ s.ppu.lcdOn = true ∧ s.ppu.mode = .draw then s
            else { s with mem := Store.set s.mem a.toNat v }) ∧
        (0xA000 ≤ a.toNat ∧ a.toNat < 0xC000 → s.write a v = { s with cart := s.cart.writeRam a v }) ∧
        (0xC000 ≤ a.toNat ∧ a.toNat < 0xE000 → s.write a v = { s with mem := Store.set s.mem a.toNat v }) ∧
        (0xE000 ≤ a.toNat ∧ a.toNat < 0xFE00 → s.write a v = { s with mem := Store.set s.mem (a.toNat - 0x2000) v }) ∧
        (0xFE00 ≤ a.toNat ∧ a.toNat < 0xFEA0 →
          s.write a v =
            if s.params.ppuAccessRestrict = true ∧ s.ppu.lcdOn = true ∧ (s.ppu.mode = .oamScan ∨ s.ppu.mode = .draw)
            then s
            else { s with mem := Store.set s.mem a.toNat v }) ∧
        (0xFEA0 ≤ a.toNat ∧ a.toNat < 0xFF00 → s.write a v = s) ∧
        (0xFF00 ≤ a.toNat ∧ a.toNat < 0xFF80 → s.write a v = s.writeIo a v) ∧
        (0xFF80 ≤ a.toNat ∧ a.toNat < 0xFFFF → s.write a v = { s with mem := Store.set s.mem a.toNat v }) ∧
        (a.toNat = 0xFFFF → s.write a v = { s with irq.ie := v }))

/-- R72: a byte written to memory is what its address reads, no byte with another key changes, and the canonical form is
kept; the echo reads and writes work RAM. -/
def Obligations.MemoryAndEcho : Prop :=
  (∀ (m : Memory) (i j : Nat) (v : Byte),
      Store.get (Store.set m i v) j = (if i = j then v else Store.get m j) ∧
        (Memory.wf m = true → Memory.wf (Store.set m i v) = true)) ∧
    (∀ (s : State) (a : Addr) (v : Byte), 0xE000 ≤ a.toNat → a.toNat < 0xFE00 →
      s.read a = s.read (a - 0x2000) ∧ s.write a v = s.write (a - 0x2000) v)

/-- R81, R82: the timer registers (with R364 for TIMA), IF and IE on the bus. -/
def Obligations.TimerAndInterruptRegistersOnBus : Prop :=
  (∀ (s : State) (v : Byte),
      s.read 0xFF04 = hiByte s.timer.div ∧ s.write 0xFF04 v = { s with timer.div := 0 } ∧
        s.read 0xFF05 = (if s.timer.reload > 0 then 0 else s.timer.tima) ∧
        s.write 0xFF05 v = { s with timer.tima := v, timer.reload := 0 } ∧
        s.read 0xFF06 = s.timer.tma ∧ s.write 0xFF06 v = { s with timer.tma := v } ∧
        (s.read 0xFF07).toNat = 0xF8 + s.timer.tac.toNat ∧
        s.write 0xFF07 v = { s with timer.tac := BitVec.ofNat 3 v.toNat }) ∧
    (∀ (s : State) (v : Byte),
      (s.read 0xFF0F).toNat = 0xE0 + s.irq.ifr.toNat ∧ s.write 0xFF0F v = { s with irq.ifr := BitVec.ofNat 5 v.toNat } ∧
        s.read 0xFFFF = s.irq.ie ∧ s.write 0xFFFF v = { s with irq.ie := v })

/-- R83: the PPU registers on the bus whose writes have no further effect, and what the others read. -/
def Obligations.PpuRegistersOnBus : Prop :=
  ∀ (s : State) (v : Byte),
    s.read 0xFF40 = s.ppu.lcdc ∧
      (s.read 0xFF41).toNat =
        0x80 + 8 * s.ppu.statEn.toNat + (if s.ppu.lycFlag then 4 else 0) + s.ppu.mode.number ∧
      s.write 0xFF41 v = { s with ppu.statEn := BitVec.ofNat 4 (v.toNat / 8) } ∧
      s.read 0xFF42 = s.ppu.scy ∧ s.write 0xFF42 v = { s with ppu.scy := v } ∧
      s.read 0xFF43 = s.ppu.scx ∧ s.write 0xFF43 v = { s with ppu.scx := v } ∧
      s.read 0xFF44 = BitVec.ofNat 8 s.ppu.ly ∧ s.write 0xFF44 v = s ∧
      s.read 0xFF45 = s.ppu.lyc ∧ s.read 0xFF46 = s.ppu.dma ∧
      s.read 0xFF47 = s.ppu.bgp ∧ s.write 0xFF47 v = { s with ppu.bgp := v } ∧
      s.read 0xFF48 = s.ppu.obp0 ∧ s.write 0xFF48 v = { s with ppu.obp0 := v } ∧
      s.read 0xFF49 = s.ppu.obp1 ∧ s.write 0xFF49 v = { s with ppu.obp1 := v } ∧
      s.read 0xFF4A = s.ppu.wy ∧ s.write 0xFF4A v = { s with ppu.wy := v } ∧
      s.read 0xFF4B = s.ppu.wx ∧ s.write 0xFF4B v = { s with ppu.wx := v }

/-- R55, R80, R84: the addresses of the I/O page that hold no state. A read of an out-of-scope register is a free value
(log 7), a write to one has no effect (log 8). -/
def Obligations.StatelessIoAddresses : Prop :=
  ∀ (s : State) (a : Addr) (v : Byte),
    (a.toNat ∈ [0xFF4D, 0xFF4F, 0xFF50, 0xFF51, 0xFF52, 0xFF53, 0xFF54, 0xFF55, 0xFF68, 0xFF69, 0xFF6A, 0xFF6B, 0xFF70,
          0xFF03, 0xFF4C, 0xFF4E] ∨ (0xFF08 ≤ a.toNat ∧ a.toNat ≤ 0xFF0E) ∨ (0xFF56 ≤ a.toNat ∧ a.toNat ≤ 0xFF67) ∨
          (0xFF6C ≤ a.toNat ∧ a.toNat ≤ 0xFF6F) ∨ (0xFF71 ≤ a.toNat ∧ a.toNat ≤ 0xFF7F) →
        s.read a = 0xFF ∧ s.write a v = s) ∧
      (0xFF00 ≤ a.toNat ∧ a.toNat ≤ 0xFF02 ∨ 0xFF10 ≤ a.toNat ∧ a.toNat ≤ 0xFF3F →
        s.read a = Config.ioExternalRead s.draws a ∧ s.write a v = s)

/-- R87: the OAM copy. OAM takes the 160 source bytes as they read before the copy, DMA keeps the value, and every byte
outside OAM and DMA reads as before. -/
def Obligations.OamDma : Prop :=
  ∀ (s : State) (v : Byte),
    let t := s.write 0xFF46 v
    let s' := { s with ppu.dma := v }
    t.ppu = s'.ppu ∧ t.cpu = s.cpu ∧
      (∀ i, i < 160 →
        t.readWith false (BitVec.ofNat 16 (0xFE00 + i)) = s'.readWith false (BitVec.ofNat 16 (v.toNat * 256 + i))) ∧
      ∀ a : Addr, ¬ (0xFE00 ≤ a.toNat ∧ a.toNat < 0xFEA0) → a ≠ 0xFF46 → t.read a = s.read a

/-! ### The cartridge (20_memory.md) -/

/-- R94, R97, with R73 and R75: no bank controller, and MBC2. -/
def Obligations.KindNoneAndMbc2Banking : Prop :=
  (∀ (s : State) (a : Addr) (v : Byte), s.cart.mbc = .none → 0x8000 ≤ s.cart.romLen →
      (a.toNat < 0x8000 → s.read a = Store.get s.cart.rom a.toNat ∧ s.write a v = s) ∧
        (0xA000 ≤ a.toNat ∧ a.toNat < 0xC000 →
          let i := (a.toNat - 0xA000) % s.cart.extRamLen
          if s.cart.extRamLen = 0 then s.read a = 0xFF ∧ s.write a v = s
          else s.read a = Store.get s.cart.extRam i ∧
            s.write a v = { s with cart.extRam := Store.set s.cart.extRam i v })) ∧
    (∀ (s : State) (m : Mbc2) (a : Addr) (v : Byte), s.cart.mbc = .mbc2 m → s.cart.extRamLen = 0x200 →
      let put (m' : Mbc2) : State := { s with cart.mbc := .mbc2 m' }
      (a.toNat < 0x4000 ∧ a.toNat / 256 % 2 = 1 →
          s.write a v = put { m with romBank := if v.toNat % 16 = 0 then 1 else BitVec.ofNat 4 v.toNat }) ∧
        (a.toNat < 0x4000 ∧ a.toNat / 256 % 2 = 0 →
          s.write a v = put { m with ramEnable := decide (v.toNat % 16 = 0xA) }) ∧
        (0x4000 ≤ a.toNat ∧ a.toNat < 0x8000 → s.write a v = s) ∧
        (a.toNat < 0x4000 → s.read a = Store.get s.cart.rom (a.toNat % s.cart.romLen)) ∧
        (0x4000 ≤ a.toNat ∧ a.toNat < 0x8000 →
          s.read a = Store.get s.cart.rom ((m.romBank.toNat * 0x4000 + (a.toNat - 0x4000)) % s.cart.romLen)) ∧
        (0xA000 ≤ a.toNat ∧ a.toNat < 0xC000 →
          let i := (a.toNat - 0xA000) % 512
          if m.ramEnable = false then s.read a = 0xFF ∧ s.write a v = s
          else (s.read a).toNat = (Store.get s.cart.extRam i).toNat % 16 ∧
            s.write a v = { s with cart.extRam := Store.set s.cart.extRam i (BitVec.ofNat 8 (v.toNat % 16)) }))

/-- R95, R96, R73, R75, R101: MBC1. -/
def Obligations.Mbc1Banking : Prop :=
  ∀ (s : State) (m : Mbc1) (a : Addr) (v : Byte), s.cart.mbc = .mbc1 m →
    let put (m' : Mbc1) : State := { s with cart.mbc := .mbc1 m' }
    (a.toNat < 0x2000 → s.write a v = put { m with ramEnable := decide (v.toNat % 16 = 0xA) }) ∧
      (0x2000 ≤ a.toNat ∧ a.toNat < 0x4000 →
        s.write a v =
          put { m with romBank := if v.toNat % 32 = 0 then 1 else BitVec.ofNat 5 v.toNat }) ∧
      (0x4000 ≤ a.toNat ∧ a.toNat < 0x6000 → s.write a v = put { m with ramBank := BitVec.ofNat 2 v.toNat }) ∧
      (0x6000 ≤ a.toNat ∧ a.toNat < 0x8000 →
        s.write a v = put { m with mode := if v.toNat % 2 = 1 then .ram else .rom }) ∧
      (a.toNat < 0x4000 →
        s.read a =
          Store.get s.cart.rom
            (((if m.mode = .ram then 32 * m.ramBank.toNat else 0) * 0x4000 + a.toNat) % s.cart.romLen)) ∧
      (0x4000 ≤ a.toNat ∧ a.toNat < 0x8000 →
        s.read a =
          Store.get s.cart.rom
            (((32 * m.ramBank.toNat + m.romBank.toNat) * 0x4000 + (a.toNat - 0x4000)) % s.cart.romLen)) ∧
      (0xA000 ≤ a.toNat ∧ a.toNat < 0xC000 →
        let i := ((if m.mode = .ram then m.ramBank.toNat else 0) * 0x2000 + (a.toNat - 0xA000)) % s.cart.extRamLen
        if s.cart.extRamLen = 0 ∨ m.ramEnable = false then s.read a = 0xFF ∧ s.write a v = s
        else s.read a = Store.get s.cart.extRam i ∧
          s.write a v = { s with cart.extRam := Store.set s.cart.extRam i v })

/-- R98, R99, R73, R75, R101: MBC3 and its clock registers. -/
def Obligations.Mbc3Banking : Prop :=
  ∀ (s : State) (m : Mbc3) (a : Addr) (v : Byte), s.cart.mbc = .mbc3 m →
    let put (m' : Mbc3) : State := { s with cart.mbc := .mbc3 m' }
    (a.toNat < 0x2000 → s.write a v = put { m with ramEnable := decide (v.toNat % 16 = 0xA) }) ∧
      (0x2000 ≤ a.toNat ∧ a.toNat < 0x4000 →
        s.write a v = put { m with romBank := if v.toNat % 128 = 0 then 1 else BitVec.ofNat 7 v.toNat }) ∧
      (0x4000 ≤ a.toNat ∧ a.toNat < 0x6000 → s.write a v = put { m with ramBank := v }) ∧
      (0x6000 ≤ a.toNat ∧ a.toNat < 0x8000 →
        s.write a v =
          if m.rtcLatch = 0x00 ∧ v = 0x01 then put { m with rtcLatched := m.rtcLive, rtcLatch := v }
          else put { m with rtcLatch := v }) ∧
      (a.toNat < 0x4000 → s.read a = Store.get s.cart.rom (a.toNat % s.cart.romLen)) ∧
      (0x4000 ≤ a.toNat ∧ a.toNat < 0x8000 →
        s.read a = Store.get s.cart.rom ((m.romBank.toNat * 0x4000 + (a.toNat - 0x4000)) % s.cart.romLen)) ∧
      (0xA000 ≤ a.toNat ∧ a.toNat < 0xC000 →
        let i := (m.ramBank.toNat * 0x2000 + (a.toNat - 0xA000)) % s.cart.extRamLen
        let clock (live latched : RtcRegs) : State := put { m with rtcLive := live, rtcLatched := latched }
        if s.cart.extRamLen = 0 ∨ m.ramEnable = false then s.read a = 0xFF ∧ s.write a v = s
        else if m.ramBank.toNat ≤ 3 then
          s.read a = Store.get s.cart.extRam i ∧ s.write a v = { s with cart.extRam := Store.set s.cart.extRam i v }
        else if m.ramBank = 0x08 then
          s.read a = m.rtcLatched.s ∧ s.write a v = clock { m.rtcLive with s := v } { m.rtcLatched with s := v }
        else if m.ramBank = 0x09 then
          s.read a = m.rtcLatched.m ∧ s.write a v = clock { m.rtcLive with m := v } { m.rtcLatched with m := v }
        else if m.ramBank = 0x0A then
          s.read a = m.rtcLatched.h ∧ s.write a v = clock { m.rtcLive with h := v } { m.rtcLatched with h := v }
        else if m.ramBank = 0x0B then
          s.read a = m.rtcLatched.dl ∧ s.write a v = clock { m.rtcLive with dl := v } { m.rtcLatched with dl := v }
        else if m.ramBank = 0x0C then
          s.read a = m.rtcLatched.dh ∧ s.write a v = clock { m.rtcLive with dh := v } { m.rtcLatched with dh := v }
        else s.read a = 0xFF ∧ s.write a v = s)

/-- R100, R73, R75, R101: MBC5, with and without rumble. -/
def Obligations.Mbc5Banking : Prop :=
  ∀ (s : State) (m : Mbc5) (a : Addr) (v : Byte), s.cart.mbc = .mbc5 m →
    let put (m' : Mbc5) : State := { s with cart.mbc := .mbc5 m' }
    (a.toNat < 0x2000 → s.write a v = put { m with ramEnable := decide (v.toNat % 16 = 0xA) }) ∧
      (0x2000 ≤ a.toNat ∧ a.toNat < 0x3000 →
        s.write a v = put { m with romBank := BitVec.ofNat 9 (256 * (m.romBank.toNat / 256) + v.toNat) }) ∧
      (0x3000 ≤ a.toNat ∧ a.toNat < 0x4000 →
        s.write a v = put { m with romBank := BitVec.ofNat 9 (256 * (v.toNat % 2) + m.romBank.toNat % 256) }) ∧
      (0x4000 ≤ a.toNat ∧ a.toNat < 0x6000 →
        s.write a v =
          if s.cart.rumbleCart then
            put { m with rumble := decide (v.toNat / 8 % 2 = 1), ramBank := BitVec.ofNat 4 (v.toNat % 8) }
          else put { m with ramBank := BitVec.ofNat 4 (v.toNat % 16) }) ∧
      (0x6000 ≤ a.toNat ∧ a.toNat < 0x8000 → s.write a v = s) ∧
      (a.toNat < 0x4000 → s.read a = Store.get s.cart.rom (a.toNat % s.cart.romLen)) ∧
      (0x4000 ≤ a.toNat ∧ a.toNat < 0x8000 →
        s.read a = Store.get s.cart.rom ((m.romBank.toNat * 0x4000 + (a.toNat - 0x4000)) % s.cart.romLen)) ∧
      (0xA000 ≤ a.toNat ∧ a.toNat < 0xC000 →
        let i := (m.ramBank.toNat * 0x2000 + (a.toNat - 0xA000)) % s.cart.extRamLen
        if s.cart.extRamLen = 0 ∨ m.ramEnable = false then s.read a = 0xFF ∧ s.write a v = s
        else s.read a = Store.get s.cart.extRam i ∧
          s.write a v = { s with cart.extRam := Store.set s.cart.extRam i v })

/-- R51, R52, R90, R92, R93, R424, R425: for which images a machine exists and for which none does, the reset state it has,
its kind and rumble column, and the tables of the size and type codes; for every contents `power` of the RAM at power-on
(`RESET_MEM`), the built machine reads that contents, and its MBC3 clock is the one given. Model's choices: a bad length
is reported before anything else (log 22), RAM-size codes above 5 are refused (log 16). -/
def Obligations.Construction : Prop :=
  (∀ (rom : Memory) (len : Nat) (power : PowerOn),
      (len % 0x4000 ≠ 0 ∨ len < 0x8000 → State.construct rom len power = .fault .invalidRomSize) ∧
        (¬ (len % 0x4000 ≠ 0 ∨ len < 0x8000) →
          (len ≠ Cartridge.romLenOfCode (Store.get rom 0x148) ∨ Cartridge.typeRow (Store.get rom 0x147) = none →
            State.construct rom len power = .fault .unsupportedCartridge) ∧
          ∀ row, len = Cartridge.romLenOfCode (Store.get rom 0x148) →
            Cartridge.typeRow (Store.get rom 0x147) = some row →
            let code := (Store.get rom 0x149).toNat
            let size (n : Nat) : Prop :=
              ∃ s, State.construct rom len power = .next s ∧
                s = State.resetWith s.cart s.mem ∧ (∀ a, isMemory a = true → s.read a = power.ram (memKey a)) ∧
                s.cart.rom = rom ∧ s.cart.romLen = len ∧ s.cart.extRamLen = n ∧
                (∀ i < n, Store.get s.cart.extRam i =
                  if row.kind = .mbc2 then power.extRam i &&& 0x0F else power.extRam i) ∧
                s.cart.rumbleCart = row.rumble ∧ (Memory.wf rom = true → s.Inv) ∧
                match row.kind, s.cart.mbc with
                | .none, .none => True
                | .mbc1, .mbc1 m => m = { romBank := 1, ramBank := 0, ramEnable := false, mode := .rom }
                | .mbc2, .mbc2 m => m = { romBank := 1, ramEnable := false }
                | .mbc3, .mbc3 m => m.romBank = 1 ∧ m.ramBank = 0 ∧ m.ramEnable = false ∧ m.rtcLatch = 0xFF ∧
                    m.rtcLive = power.rtcLive ∧ m.rtcLatched = power.rtcLatched
                | .mbc5, .mbc5 m => m = { romBank := 1, ramBank := 0, ramEnable := false, rumble := false }
                | _, _ => False
            if row.kind = .mbc2 then size 512
            else if row.ram = false then size 0
            else if code = 0 then size 0
            else if code = 1 then size (2 * 1024)
            else if code = 2 then size (8 * 1024)
            else if code = 3 then size (32 * 1024)
            else if code = 4 then size (128 * 1024)
            else if code = 5 then size (64 * 1024)
            else State.construct rom len power = .fault .unsupportedCartridge)) ∧
    (∀ code : Byte,
      Cartridge.romLenOfCode code =
        if code = 0x52 then 72 * 0x4000
        else if code = 0x53 then 80 * 0x4000
        else if code = 0x54 then 96 * 0x4000
        else 0x8000 * 2 ^ code.toNat) ∧
    (∀ code : Byte,
      (Cartridge.typeRow code).map (fun r => r.kind) =
          (if code.toNat ∈ [0x00, 0x08, 0x09] then some .none
           else if code.toNat ∈ [0x01, 0x02, 0x03] then some .mbc1
           else if code.toNat ∈ [0x05, 0x06] then some .mbc2
           else if 0x0F ≤ code.toNat ∧ code.toNat ≤ 0x13 then some .mbc3
           else if 0x19 ≤ code.toNat ∧ code.toNat ≤ 0x1E then some .mbc5
           else none) ∧
        ∀ r, Cartridge.typeRow code = some r →
          r.ram = decide (code.toNat ∈ [0x02, 0x03, 0x05, 0x06, 0x08, 0x09, 0x10, 0x12, 0x13, 0x1A, 0x1B, 0x1D, 0x1E]) ∧
            r.rumble = decide (code.toNat ∈ [0x1C, 0x1D, 0x1E]))

/-! ### Reset (70_reset_and_hazards.md) -/

/-- The control bits (R422) and PC (R421, R426) at reset, for every cartridge and every contents of RAM. Model's choice,
no rule of the spec: `State.reset` is the one of the blank cartridge with no RAM byte listed (logs 3, 4). -/
def Obligations.ResetControlState : Prop :=
  State.reset = State.resetWith .blank [] ∧
    ∀ (cart : Cartridge) (mem : Memory),
      let c := (State.resetWith cart mem).cpu
      c.pc = 0x0100 ∧ c.ime = false ∧ c.imeEnableAfter = .none ∧ c.halt = false ∧ c.stop = false ∧ c.haltBug = false ∧
        c.lock = false

/-- The defaults of RESET_REGS and RESET_IO (logs 1, 2), as the CPU reads them, for every cartridge and every contents of
RAM. -/
def Obligations.ResetDefaults : Prop :=
  ∀ (cart : Cartridge) (mem : Memory),
  let s := State.resetWith cart mem
  s.af = 0x01B0 ∧ s.bc = 0x0013 ∧ s.de = 0x00D8 ∧ s.hl = 0x014D ∧ s.cpu.sp = 0xFFFE ∧
    s.read 0xFF0F = 0xE1 ∧ s.read 0xFFFF = 0x00 ∧ s.read 0xFF04 = 0xAB ∧ s.read 0xFF05 = 0x00 ∧ s.read 0xFF06 = 0x00 ∧
    s.read 0xFF07 = 0xF8 ∧ s.read 0xFF40 = 0x91 ∧ s.read 0xFF41 = 0x86 ∧ s.read 0xFF42 = 0x00 ∧ s.read 0xFF43 = 0x00 ∧
    s.read 0xFF44 = 0x00 ∧ s.read 0xFF45 = 0x00 ∧ s.read 0xFF46 = 0xFF ∧ s.read 0xFF47 = 0xFC ∧ s.read 0xFF48 = 0xFF ∧
    s.read 0xFF49 = 0xFF ∧ s.read 0xFF4A = 0x00 ∧ s.read 0xFF4B = 0x00 ∧ s.timer.div = 0xABCC ∧ s.timer.reload = 0 ∧
    s.ppu.dots = 0 ∧ s.ppu.framebuffer = []

/-- The state after reset meets the invariant. -/
def Obligations.InvAtReset : Prop := State.reset.Inv

/-! ### The step (60_exceptions.md) -/

/-- A step runs the instruction that the bytes at PC decode to, with PC moved past it, EI's delay applied, and the
peripherals advanced. With the HALT bug waiting, the opcode byte is read without moving PC (rule R323). -/
def Obligations.StepRunsDecodedInstruction : Prop :=
  ∀ (s t : State) (i : Instr) (rest : List Byte), s.cpuAction = .execute t →
    let finish (r : Result) : Result :=
      match r with
      | .next u => .next (u.retire t.cpu.imeEnableAfter).advance
      | .fault e => .fault e
      | .refused e => .refused e
    let pc := t.cpu.pc
    (t.cpu.haltBug = false → decode [t.read pc, t.read (pc + 1), t.read (pc + 2)] = .ok (i, rest) →
        step s = finish (exec i { t with cpu.pc := pc + BitVec.ofNat 16 (3 - rest.length) })) ∧
      (t.cpu.haltBug = true → decode [t.read pc, t.read pc, t.read (pc + 1)] = .ok (i, rest) →
        step s =
          finish (exec i { t with cpu.pc := pc + BitVec.ofNat 16 (2 - rest.length), cpu.haltBug := false }))

/-- R320, R345, R350 to R353: which of its things the CPU does in a step. `u` is the state after the outside requests of
the step (rule R341), `pend` what is then pending and enabled. -/
def Obligations.StepPrecedence : Prop :=
  ∀ s : State,
    let requested : BitVec 5 := (if s.ext.serial then 0b01000 else 0) ||| (if s.ext.joypad then 0b10000 else 0)
    let u : State := { s with irq.ifr := s.irq.ifr ||| requested, extIrq := s.extIrq.tail }
    let pend := u.irq.ifr &&& s.irq.ie.extractLsb' 0 5
    let up := s.cpu.stop = false ∨ s.ext.joypad = true
    (s.cpu.lock = true → step s = .next (u.spend 4).advance) ∧
      (s.cpu.lock = false → s.cpu.stop = true → s.ext.joypad = false → step s = .next (u.spend 4).advance) ∧
      (s.cpu.lock = false → up → s.cpu.ime = true → pend ≠ 0 →
        step s = .next (({ u with cpu.stop := false, cpu.halt := false } : State).serviceInterrupt
          (firstPending pend)).advance) ∧
      (s.cpu.lock = false → up → pend = 0 → s.cpu.halt = true →
        step s = .next (({ u with cpu.stop := false } : State).spend 4).advance) ∧
      (s.cpu.lock = false → up → s.cpu.ime = false → pend ≠ 0 →
        s.cpuAction = .execute { u with cpu.stop := false, cpu.halt := false }) ∧
      (s.cpu.lock = false → up → pend = 0 → s.cpu.halt = false →
        s.cpuAction = .execute { u with cpu.stop := false })

/-- R343: the service sequence. The source is the pending one with the smallest id; the two stores are at SP - 2 (PC's low
byte) and at SP - 1. -/
def Obligations.ServiceSequence : Prop :=
  (∀ (s : State) (q : IrqSource),
    let w := (s.write (s.cpu.sp - 2) (loByte s.cpu.pc)).write (s.cpu.sp - 1) (hiByte s.cpu.pc)
    s.serviceInterrupt q =
      { w with
        cpu :=
          { s.cpu with
            ime := false, imeEnableAfter := .none, halt := false, haltBug := false
            sp := s.cpu.sp - 2, pc := BitVec.ofNat 16 (0x40 + 8 * q.id) }
        irq.ifr := w.irq.ifr &&& ~~~(1#5 <<< q.id)
        cycles := 20 }) ∧
    (∀ pend : BitVec 5, pend ≠ 0 →
      pend.getLsbD (firstPending pend).id = true ∧ ∀ j, j < (firstPending pend).id → pend.getLsbD j = false)

/-- R343, R344, source scenario 3: after a step that services an interrupt with its stack in work RAM, the interrupt is
the one with the lowest id, IME is 0, PC is its vector, the old PC is on the stack, SP is lower by 2. -/
def Obligations.InterruptIsTaken : Prop :=
  ∀ (s t : State) (k : Nat), s.cpu.lock = false → s.cpu.stop = false → s.cpu.ime = true → s.extIrq = [] →
    k < 5 → (s.irq.ifr &&& s.irq.ie.extractLsb' 0 5).getLsbD k = true →
    (∀ j, j < k → (s.irq.ifr &&& s.irq.ie.extractLsb' 0 5).getLsbD j = false) →
    isWorkRam (s.cpu.sp - 2) = true → isWorkRam (s.cpu.sp - 1) = true →
    step s = .next t →
    t.cpu = { s.cpu with
        ime := false, imeEnableAfter := .none, halt := false, haltBug := false
        sp := s.cpu.sp - 2, pc := BitVec.ofNat 16 (0x40 + 8 * k) } ∧
      t.read (s.cpu.sp - 2) = loByte s.cpu.pc ∧ t.read (s.cpu.sp - 1) = hiByte s.cpu.pc ∧ t.irq.ie = s.irq.ie ∧
      t.cycles = 20

/-- R302, R322, R441: after EI with IME clear the next step takes no interrupt, and IME is 1 once the instruction it runs
has retired, unless that instruction is DI. -/
def Obligations.EiTakesEffectOneInstructionLate : Prop :=
  ∀ (s u s' : State), s.cpuAction = .execute u → u.fetched.1 = .ei → s.cpu.ime = false →
    s.cpu.imeEnableAfter = .none → step s = .next s' →
    s'.cpu.ime = false ∧ s'.cpu.imeEnableAfter = .nextInstruction ∧ (∀ t q, s'.cpuAction ≠ .service t q) ∧
      ∀ u' s'', s'.cpuAction = .execute u' → step s' = .next s'' →
        s''.cpu.ime = decide (u'.fetched.1 ≠ .di) ∧ s''.cpu.imeEnableAfter = .none

/-- R320, R321: every step goes on, none ends in a fault or a refusal, and its cycle count is 4 for an idle period, 20 for
a service sequence, a multiple of 4 from 4 to 24 for an instruction. That a step on an undefined opcode, or with the CPU
locked, answers a next state and no fault is the model's choice (log 19). -/
def Obligations.EveryStepGoesOn : Prop :=
  ∀ s : State, ∃ t, step s = .next t ∧
    4 ≤ t.cycles ∧ t.cycles ≤ 24 ∧ t.cycles % 4 = 0 ∧
      (∀ u, s.cpuAction = .idle u → t.cycles = 4) ∧ ∀ u q, s.cpuAction = .service u q → t.cycles = 20

/-- Every step keeps the invariant. -/
def Obligations.StepKeepsInv : Prop := ∀ s t : State, s.Inv → step s = .next t → t.Inv

/-- R52, R53: no step changes the ROM image, the sizes, the kind of the bank controller, or the parameters. -/
def Obligations.StepKeepsCartridgeIdentity : Prop :=
  ∀ s t : State, step s = .next t →
    t.cart.rom = s.cart.rom ∧ t.cart.romLen = s.cart.romLen ∧ t.cart.extRamLen = s.cart.extRamLen ∧
      t.cart.rumbleCart = s.cart.rumbleCart ∧ t.params = s.params ∧
      match s.cart.mbc, t.cart.mbc with
      | .none, .none => True
      | .mbc1 _, .mbc1 _ => True
      | .mbc2 _, .mbc2 _ => True
      | .mbc3 _, .mbc3 _ => True
      | .mbc5 _, .mbc5 _ => True
      | _, _ => False

/-- R27, R29, R30, R32, R351: what sets and clears each control bit. What clears halt is a pending enabled interrupt, the
requests of this step among the pending ones, of a CPU that is neither locked nor left stopped. That the lock is a bit
of a next state is the model's choice (log 19). -/
def Obligations.ControlBitsHaveTheirCauses : Prop :=
  ∀ s t : State, step s = .next t →
    (s.cpu.ime = false → t.cpu.ime = true →
        ∃ u, s.cpuAction = .execute u ∧ (u.fetched.1 = .reti ∨ s.cpu.imeEnableAfter = .nextInstruction)) ∧
      (s.cpu.ime = true → t.cpu.ime = false →
        (∃ u q, s.cpuAction = .service u q) ∨ ∃ u, s.cpuAction = .execute u ∧ u.fetched.1 = .di) ∧
      (s.cpu.lock = true → t.cpu.lock = true) ∧
      (s.cpu.lock = false → t.cpu.lock = true →
        ∃ u, s.cpuAction = .execute u ∧ u.fetched.1 ∈ [Instr.illegal_D3, .illegal_DB, .illegal_DD, .illegal_E3,
          .illegal_E4, .illegal_EB, .illegal_EC, .illegal_ED, .illegal_F4, .illegal_FC, .illegal_FD]) ∧
      (s.cpu.stop = false → t.cpu.stop = true → ∃ u pad, s.cpuAction = .execute u ∧ u.fetched.1 = .stop pad) ∧
      (s.cpu.stop = true → t.cpu.stop = false → s.cpu.lock = false ∧ s.ext.joypad = true) ∧
      (s.cpu.halt = false → t.cpu.halt = true → ∃ u, s.cpuAction = .execute u ∧ u.fetched.1 = .halt) ∧
      (s.cpu.halt = true → t.cpu.halt = false →
        let requested : BitVec 5 := (if s.ext.serial then 0b01000 else 0) ||| (if s.ext.joypad then 0b10000 else 0)
        s.cpu.lock = false ∧ (s.cpu.stop = false ∨ s.ext.joypad = true) ∧
          (s.irq.ifr ||| requested) &&& s.irq.ie.extractLsb' 0 5 ≠ 0)

/-- R353, R443: a locked CPU, a halted CPU with no source enabled, and a stopped CPU with no joypad request to come keep
their registers, IE and memory through any number of steps, and stay as they are. That a locked CPU goes on to a next state is
the model's choice (log 19). -/
def Obligations.EndlessWaits : Prop :=
  ∀ (s t : State) (n : Nat), core.run n s = .next t →
    (s.Locked → t.Locked ∧ t.cpu = s.cpu ∧ t.mem = s.mem ∧ t.irq.ie = s.irq.ie) ∧
      (s.StuckInHalt → t.StuckInHalt ∧ t.cpu = s.cpu ∧ t.mem = s.mem ∧ t.irq.ie = s.irq.ie) ∧
      (s.StuckInStop → t.StuckInStop ∧ t.cpu = s.cpu ∧ t.mem = s.mem ∧ t.irq.ie = s.irq.ie)

/-- R455: at the end of a run whose loop stands in ROM or work RAM, with no EI and no HALT bug waiting, the next step
changes no register and no memory byte, and the run is still at its end. -/
def Obligations.EndOfRunStays : Prop :=
  ∀ (s t : State) (done : Addr), s.Ended done → s.cpu.imeEnableAfter = .none → s.cpu.haltBug = false →
    (∀ a, a = done ∨ a = done + 1 → region a = .rom ∨ isWorkRam a = true) → step s = .next t →
    t.Ended done ∧ t.cpu = s.cpu ∧ t.mem = s.mem ∧ t.cart.extRam = s.cart.extRam ∧ t.irq.ie = s.irq.ie ∧ t.cycles = 12

/-! ### The timer (60_exceptions.md) -/

/-- R320, R324, R361, R371: the end of a step moves the timer and the PPU by the step's cycle count. `div` counts every
cycle (R361); TIMA and the pending reload are those of as many ticks (R361, R363); with the LCD on the PPU is as many
places on in the frame, with it off it stands (R377, R378). IF keeps its bits and gains the Timer request of a tick that
reloads TIMA (R363), the VBlank request of a dot that starts line 144 (R374) and the STAT requests of the dots (R375,
R376); IE, the registers, memory and the cartridge are left, but for the live MBC3 clock, a free value (logs 7, 9). -/
def Obligations.DivCountsCycles : Prop :=
  ∀ s : State,
    let t := s.advance
    let timerAt (k : Nat) : Timer := Timer.ticks k s.timer
    let ppuAt (k : Nat) : Ppu := Ppu.dotTimes k s.mem s.ppu
    (t.timer = timerAt s.cycles ∧ t.timer.div = s.timer.div + BitVec.ofNat 16 s.cycles ∧
        t.timer.tma = s.timer.tma ∧ t.timer.tac = s.timer.tac) ∧
      (t.ppu = ppuAt s.cycles ∧
        (s.ppu.Ok → s.ppu.lcdOn = true → t.ppu.position = (s.ppu.position + s.cycles) % 70224) ∧
        (s.ppu.lcdOn = false → t.ppu = s.ppu)) ∧
      (t.irq.ie = s.irq.ie ∧
        (t.irq.ifr.getLsbD 0 = true ↔ s.irq.ifr.getLsbD 0 = true ∨
          ∃ k < s.cycles, (ppuAt k).lcdOn = true ∧ (ppuAt k).dots = 455 ∧ ((ppuAt k).ly + 1) % 154 = 144) ∧
        (t.irq.ifr.getLsbD 1 = true ↔ s.irq.ifr.getLsbD 1 = true ∨
          ∃ k < s.cycles, ((ppuAt k).dot s.mem).2.getLsbD 1 = true) ∧
        (t.irq.ifr.getLsbD 2 = true ↔ s.irq.ifr.getLsbD 2 = true ∨ ∃ k < s.cycles, (timerAt k).reload = 1) ∧
        t.irq.ifr.getLsbD 3 = s.irq.ifr.getLsbD 3 ∧ t.irq.ifr.getLsbD 4 = s.irq.ifr.getLsbD 4) ∧
      (t.cpu = s.cpu ∧ t.mem = s.mem ∧ t.params = s.params ∧ t.extIrq = s.extIrq ∧ t.cycles = s.cycles ∧
        t.draws = s.draws + 1) ∧
      t.cart =
        match s.cart.mbc with
        | .mbc3 m => { s.cart with mbc := .mbc3 { m with rtcLive := Config.rtcTick s.draws m.rtcLive } }
        | _ => s.cart

/-- R362: in a window of exactly one period, an enabled TIMA that does not overflow steps once; a disabled one holds. R363,
R444: when TIMA steps past 0xFF it reads 0 for four ticks, then takes TMA, and the Timer request is made by the tick
that reloads, not before. -/
def Obligations.TimaCountsAndReloads : Prop :=
  (∀ t : Timer, t.reload = 0 →
      (t.enabled = true → t.tima ≠ 0xFF →
          (Timer.ticks t.period t).tima = t.tima + 1 ∧ (Timer.ticks t.period t).reload = 0) ∧
        (t.enabled = false → ∀ n, (Timer.ticks n t).tima = t.tima)) ∧
    (∀ t : Timer, t.enabled = true → t.reload = 0 → t.tima = 0xFF → (t.div.toNat + 1) % t.period = 0 →
      (∀ k, 1 ≤ k → k ≤ 4 → (Timer.ticks k t).readTima = 0) ∧ (Timer.ticks 5 t).readTima = t.tma ∧
        (∀ k, k < 4 → (Timer.ticks k t).tick.2 = 0) ∧ (Timer.ticks 4 t).tick.2 = 0b00100)

/-! ### The PPU (60_exceptions.md) -/

/-- R371 to R377: with the LCD on, `n` dots move the PPU `n` places on in a frame of 70,224, and a dot requests VBlank
exactly when it brings the PPU to the first dot of line 144. What each dot does: mode 3 at dot 80 of a visible line; at
dot 252 the line is drawn and mode 0 entered, with its STAT request; after dot 455 the line steps, is compared with LYC,
and mode 1 or 2 is entered, with the requests of all of these; any other dot only counts. -/
def Obligations.FrameAndVBlank : Prop :=
  (∀ (s : State) (n : Nat), s.ppu.Ok → s.ppu.lcdOn = true →
      (State.ppuAdvance n s).ppu.position = (s.ppu.position + n) % 70224) ∧
    (∀ (p : Ppu) (mem : Memory), p.Ok → p.lcdOn = true →
      ((p.dot mem).2.getLsbD 0 = true ↔ (p.position + 1) % 70224 = 65664) ∧
        (p.dots = 455 ∧ p.ly = 143 → (p.dot mem).1.mode = .vblank ∧ (p.dot mem).1.ly = 144)) ∧
    (∀ (p : Ppu) (mem : Memory), p.lcdOn = true →
      (p.ly < 144 → p.dots = 79 → p.dot mem = ({ p with dots := 80, mode := .draw }, 0)) ∧
        (p.ly < 144 → p.dots = 251 →
          p.dot mem =
            ({ p.renderLine mem p.ly with dots := 252, mode := .hblank },
              if p.statEn.getLsbD 0 then 0b00010 else 0)) ∧
        (p.dots = 455 →
          let l := (p.ly + 1) % 154
          let lyc := decide (l = p.lyc.toNat)
          let stat :=
            lyc = true ∧ p.lycFlag = false ∧ p.statEn.getLsbD 3 = true ∨ l = 144 ∧ p.statEn.getLsbD 1 = true ∨
              l < 144 ∧ p.statEn.getLsbD 2 = true
          p.dot mem =
            ({ p with
                dots := 0, ly := l, lycFlag := lyc
                mode := if l = 144 then .vblank else if l < 144 then .oamScan else p.mode },
              (if stat then 0b00010 else 0) ||| (if l = 144 then 0b00001 else 0))) ∧
        (¬ (p.ly < 144 ∧ (p.dots = 79 ∨ p.dots = 251)) → p.dots ≠ 455 →
          p.dot mem = ({ p with dots := p.dots + 1 }, 0)))

/-- R377, R378, R447: after the LCD is turned on, the first VBlank request comes with dot 65,664, not before. -/
def Obligations.FirstVBlankAfterLcdOn : Prop :=
  ∀ (s : State) (v : Byte), s.Inv → s.ppu.lcdOn = false → v.getLsbD 7 = true → s.irq.ifr.getLsbD 0 = false →
    let t := s.write 0xFF40 v
    (∀ n, n < 65664 → (State.ppuAdvance n t).irq.ifr.getLsbD 0 = false) ∧
      (State.ppuAdvance 65664 t).irq.ifr.getLsbD 0 = true

/-- R375, R376, R378, R379: what a write that switches the LCD does, that a PPU that is off does nothing, entering a mode, and
the LYC comparison (also by a write to LYC), with their STAT requests. -/
def Obligations.LcdSwitchAndStatRequests : Prop :=
  (∀ (s : State) (v : Byte) (mem : Memory),
      (s.ppu.lcdOn = true ∧ v.getLsbD 7 = false →
          s.write 0xFF40 v =
            { s with ppu.lcdc := v, ppu.ly := 0, ppu.mode := .hblank, ppu.dots := 0 }) ∧
        (s.ppu.lcdOn = false ∧ v.getLsbD 7 = true →
          let lyc := decide (s.ppu.lyc = 0)
          let stat := s.ppu.statEn.getLsbD 2 || (lyc && !s.ppu.lycFlag && s.ppu.statEn.getLsbD 3)
          s.write 0xFF40 v =
            { s with
              ppu.lcdc := v, ppu.ly := 0, ppu.mode := .oamScan, ppu.dots := 0, ppu.lycFlag := lyc
              irq.ifr := s.irq.ifr ||| (if stat then 0b00010 else 0) }) ∧
        (s.ppu.lcdOn = v.getLsbD 7 → s.write 0xFF40 v = { s with ppu.lcdc := v }) ∧
        (s.ppu.lcdOn = false → s.ppu.dot mem = (s.ppu, 0))) ∧
    (∀ (s : State) (m : PpuMode) (v : Byte),
      let p := s.ppu
      let entry :=
        (m = .hblank ∧ p.statEn.getLsbD 0 = true) ∨ (m = .vblank ∧ p.statEn.getLsbD 1 = true) ∨
          (m = .oamScan ∧ p.statEn.getLsbD 2 = true)
      let new := decide (p.ly = v.toNat)
      let request := p.lcdOn && new && !p.lycFlag && p.statEn.getLsbD 3
      (p.enterMode m).1 = { p with mode := m } ∧ (p.enterMode m).2 = (if entry then 0b00010 else 0) ∧
        s.write 0xFF45 v =
          { s with
            ppu.lyc := v
            ppu.lycFlag := if p.lcdOn then new else p.lycFlag
            irq.ifr := s.irq.ifr ||| (if request then 0b00010 else 0) })

/-- R380: rendering line y stores the shade of each of its 160 pixels and touches no other entry. R381, R385, R386: the
colour index of a pixel that the window does not cover is that of the background, the tile map entry of the scrolled
point, its tile's row and column; where no sprite wins the pixel, it has the shade that BGP gives that index. -/
def Obligations.RenderedBackground : Prop :=
  (∀ (p : Ppu) (mem : Memory) (y i : Nat),
      Store.get (p.renderLine mem y).framebuffer i =
        if 160 * y ≤ i ∧ i < 160 * y + 160 then p.pixel mem (p.lineSprites mem y) (i - 160 * y) y
        else Store.get p.framebuffer i) ∧
    (∀ (p : Ppu) (mem : Memory) (x y : Nat),
      ¬ (p.lcdc.getLsbD 0 = true ∧ p.lcdc.getLsbD 5 = true ∧ p.wy.toNat ≤ y ∧ p.wx.toNat ≤ 166 ∧ p.wx.toNat ≤ x + 7) →
      let px := (x + p.scx.toNat) % 256
      let py := (y + p.scy.toNat) % 256
      let t := (Store.get mem ((if p.lcdc.getLsbD 3 then 0x9C00 else 0x9800) + 32 * (py / 8) + px / 8)).toNat
      let base :=
        if p.lcdc.getLsbD 4 then 0x8000 + 16 * t else if t < 128 then 0x9000 + 16 * t else 0x8800 + 16 * (t - 128)
      let lo := Store.get mem (base + 2 * (py % 8))
      let hi := Store.get mem (base + 2 * (py % 8) + 1)
      let bit (b : Byte) : Nat := if b.getLsbD (7 - px % 8) then 1 else 0
      let c := if p.lcdc.getLsbD 0 then 2 * bit hi + bit lo else 0
      p.backgroundPixel mem x y = c ∧
        (p.winningSprite mem x y (p.lineSprites mem y) = none →
          (p.pixel mem (p.lineSprites mem y) x y).toNat = p.bgp.toNat / 4 ^ c % 4))

/-- R382, R385, R386: a pixel that the window covers has the colour index of the window's point, and its shade by BGP where
no sprite wins. R384, R386: which sprite wins a pixel, its colour index with flips and the tile of an 8 by 16 sprite,
its priority over the background or window index, and its palette. -/
def Obligations.WindowAndSpritePixels : Prop :=
  (∀ (p : Ppu) (mem : Memory) (x y : Nat),
      p.lcdc.getLsbD 0 = true → p.lcdc.getLsbD 5 = true → p.wy.toNat ≤ y → p.wx.toNat ≤ 166 → p.wx.toNat ≤ x + 7 →
      let wx := x + 7 - p.wx.toNat
      let wy := y - p.wy.toNat
      let t := (Store.get mem ((if p.lcdc.getLsbD 6 then 0x9C00 else 0x9800) + 32 * (wy / 8) + wx / 8)).toNat
      let base :=
        if p.lcdc.getLsbD 4 then 0x8000 + 16 * t else if t < 128 then 0x9000 + 16 * t else 0x8800 + 16 * (t - 128)
      let lo := Store.get mem (base + 2 * (wy % 8))
      let hi := Store.get mem (base + 2 * (wy % 8) + 1)
      let bit (b : Byte) : Nat := if b.getLsbD (7 - wx % 8) then 1 else 0
      let c := 2 * bit hi + bit lo
      p.backgroundPixel mem x y = c ∧
        (p.winningSprite mem x y (p.lineSprites mem y) = none →
          (p.pixel mem (p.lineSprites mem y) x y).toNat = p.bgp.toNat / 4 ^ c % 4)) ∧
    (∀ (p : Ppu) (mem : Memory) (x y : Nat),
      let h := if p.lcdc.getLsbD 2 then 16 else 8
      let covers (o : Ppu.Sprite) : Prop := o.x.toNat ≤ x + 8 ∧ x + 8 < o.x.toNat + 8
      let colour (o : Ppu.Sprite) : Nat :=
        let row := if o.attr.getLsbD 6 then h - 1 - (y + 16 - o.y.toNat) else y + 16 - o.y.toNat
        let col := if o.attr.getLsbD 5 then 7 - (x + 8 - o.x.toNat) else x + 8 - o.x.toNat
        let tile := if h = 8 then o.tile.toNat else 2 * (o.tile.toNat / 2) + row / 8
        let at' (i : Nat) : Nat :=
          if (Store.get mem (0x8000 + 16 * tile + 2 * (row % 8) + i)).getLsbD (7 - col) then 1 else 0
        2 * at' 1 + at' 0
      let bg := p.backgroundPixel mem x y
      (p.winningSprite mem x y (p.lineSprites mem y) = none ↔
          ∀ o ∈ p.lineSprites mem y, covers o → colour o = 0) ∧
        ∀ before o after, p.lineSprites mem y = before ++ o :: after → (∀ q ∈ before, covers q → colour q = 0) →
          covers o → colour o ≠ 0 →
          p.winningSprite mem x y (p.lineSprites mem y) = some (o, colour o) ∧
            (p.pixel mem (p.lineSprites mem y) x y).toNat =
              if o.attr.getLsbD 7 = true ∧ bg ≠ 0 then p.bgp.toNat / 4 ^ bg % 4
              else (if o.attr.getLsbD 4 then p.obp1 else p.obp0).toNat / 4 ^ colour o % 4)

/-- R383: the 40 OAM entries of four bytes, Y, X, tile and attributes, are tried in order for the line; at most ten are
taken, each is on the line, and they are then tried in ascending X, ties in OAM order; with LCDC bit 1 clear there are
none. -/
def Obligations.SpriteSelection : Prop :=
  ∀ (p : Ppu) (mem : Memory) (y : Nat),
    let h := if p.lcdc.getLsbD 2 then 16 else 8
    let entry (i : Nat) : Ppu.Sprite :=
      { y := Store.get mem (0xFE00 + 4 * i), x := Store.get mem (0xFE01 + 4 * i)
        tile := Store.get mem (0xFE02 + 4 * i), attr := Store.get mem (0xFE03 + 4 * i) }
    let onLine (o : Ppu.Sprite) : Bool := decide (o.y.toNat ≤ y + 16 ∧ y + 16 < o.y.toNat + h)
    (p.lineSprites mem y).length ≤ 10 ∧
      (∀ o ∈ p.lineSprites mem y, onLine o = true) ∧
      (p.lineSprites mem y).Pairwise (fun a b => a.x.toNat ≤ b.x.toNat) ∧
      (p.lcdc.getLsbD 1 = false → p.lineSprites mem y = []) ∧
      (p.lcdc.getLsbD 1 = true → ∀ x : Byte,
        (p.lineSprites mem y).filter (fun o => decide (o.x = x)) =
          ((((List.range 40).map entry).filter onLine).take 10).filter (fun o => decide (o.x = x)))

/-! ### Whole instructions together -/

/-- R196: "push rr / pop rr leaves rr unchanged". R285, R287: a call and its return. R289, R346: a handler entered by the
service sequence and left by RETI resumes where it was interrupted, with IME set. The stack is in work RAM. -/
def Obligations.StackRoundTrips : Prop :=
  (∀ (r : R16Stk) (s t u : State), isWorkRam (s.cpu.sp - 2) = true → isWorkRam (s.cpu.sp - 1) = true →
      exec (Row.push r) s = .next t → exec (Row.pop r) t = .next u → u.cpu = s.cpu) ∧
    (∀ (a : Addr) (s t u : State), isWorkRam (s.cpu.sp - 2) = true → isWorkRam (s.cpu.sp - 1) = true →
      exec (.call_a16 a) s = .next t → exec .ret t = .next u → u.cpu = s.cpu) ∧
    (∀ (s u : State) (q : IrqSource), isWorkRam (s.cpu.sp - 2) = true → isWorkRam (s.cpu.sp - 1) = true →
      exec .reti (s.serviceInterrupt q) = .next u →
      u.cpu = { s.cpu with ime := true, imeEnableAfter := .none, halt := false, haltBug := false })

/-- R211, R223: adding two BCD bytes with ADD and adjusting with DAA gives the BCD of the sum, its carry in CY. -/
def Obligations.BcdAddition : Prop :=
  ∀ (s t u : State) (x y : Nat), x < 100 → y < 100 →
    s.cpu.a = BitVec.ofNat 8 (16 * (x / 10) + x % 10) → s.cpu.b = BitVec.ofNat 8 (16 * (y / 10) + y % 10) →
    exec .add_A_B s = .next t → exec .daa t = .next u →
    u.cpu.a = BitVec.ofNat 8 (16 * ((x + y) / 10 % 10) + (x + y) % 10) ∧ u.cpu.flags.cy = decide (100 ≤ x + y)
end

