-- ==== Sys2Proof/Laws/Region.lean ====
section
/-! SUPPORT. The address map (20_memory.md rule R72): which addresses each region holds, and the keys of memory bytes. -/

namespace Sys2Proof.Machine

theorem region_eq_rom {a : Addr} : region a = .rom ↔ a.toNat < 0x8000 := by
  simp only [region]; split_ifs <;> simp <;> omega

theorem region_eq_vram {a : Addr} : region a = .vram ↔ 0x8000 ≤ a.toNat ∧ a.toNat < 0xA000 := by
  simp only [region]; split_ifs <;> simp <;> omega

theorem region_eq_extRam {a : Addr} : region a = .extRam ↔ 0xA000 ≤ a.toNat ∧ a.toNat < 0xC000 := by
  simp only [region]; split_ifs <;> simp <;> omega

theorem region_eq_wram {a : Addr} : region a = .wram ↔ 0xC000 ≤ a.toNat ∧ a.toNat < 0xE000 := by
  simp only [region]; split_ifs <;> simp <;> omega

theorem region_eq_echo {a : Addr} : region a = .echo ↔ 0xE000 ≤ a.toNat ∧ a.toNat < 0xFE00 := by
  simp only [region]; split_ifs <;> simp <;> omega

theorem region_eq_oam {a : Addr} : region a = .oam ↔ 0xFE00 ≤ a.toNat ∧ a.toNat < 0xFEA0 := by
  simp only [region]; split_ifs <;> simp <;> omega

theorem region_eq_unusable {a : Addr} : region a = .unusable ↔ 0xFEA0 ≤ a.toNat ∧ a.toNat < 0xFF00 := by
  simp only [region]; split_ifs <;> simp <;> omega

theorem region_eq_io {a : Addr} : region a = .io ↔ 0xFF00 ≤ a.toNat ∧ a.toNat < 0xFF80 := by
  simp only [region]; split_ifs <;> simp <;> omega

theorem region_eq_hram {a : Addr} : region a = .hram ↔ 0xFF80 ≤ a.toNat ∧ a.toNat < 0xFFFF := by
  simp only [region]; split_ifs <;> simp <;> omega

theorem region_eq_ie {a : Addr} : region a = .ie ↔ a = 0xFFFF := by
  have := a.isLt
  have : a = 0xFFFF ↔ a.toNat = 0xFFFF := ⟨fun h => by simp [h], fun h => BitVec.eq_of_toNat_eq (by simpa using h)⟩
  rw [this]
  simp only [region]; split_ifs <;> simp <;> omega

theorem memKey_echo {a : Addr} (h : region a = .echo) : memKey a = a.toNat - 0x2000 := by
  simp [memKey, h]

theorem memKey_of_ne_echo {a : Addr} (h : region a ≠ .echo) : memKey a = a.toNat := by
  unfold memKey; split <;> simp_all

/-- The addresses that `State.mem` serves are those of five regions. -/
theorem isMemory_iff {a : Addr} :
    isMemory a = true ↔
      region a = .vram ∨ region a = .wram ∨ region a = .echo ∨ region a = .oam ∨ region a = .hram := by
  by_cases he : region a = .echo
  · have h := region_eq_echo.mp he
    simp only [isMemory, memKey_echo he, ownedKey, he, reduceCtorEq, or_false, false_or, iff_true]
    simp
    omega
  · simp only [isMemory, memKey_of_ne_echo he, ownedKey, he, region_eq_vram, region_eq_wram, region_eq_oam,
      region_eq_hram]
    simp
    omega

theorem ownedKey_memKey {a : Addr}
    (h : region a = .vram ∨ region a = .wram ∨ region a = .echo ∨ region a = .oam ∨ region a = .hram) :
    ownedKey (memKey a) = true := isMemory_iff.mpr h

theorem ownedKey_oam {i : Nat} (h : i < 160) : ownedKey (0xFE00 + i) = true := by
  simp [ownedKey]; omega

end Sys2Proof.Machine
end

