-- ==== Sys2Proof/Laws/Word.lean ====
section
/-! SUPPORT. Splitting a 16-bit value into bytes and joining it again (00_scope.md rules R8, R11). -/

namespace Sys2Proof

theorem toNat_joinBytes (h l : Byte) : (joinBytes h l).toNat = h.toNat * 256 + l.toNat := by
  refine (BitVec.toNat_append h l).trans ?_
  rw [← Nat.shiftLeft_add_eq_or_of_lt l.isLt, Nat.shiftLeft_eq]

theorem toNat_loByte (v : Addr) : (loByte v).toNat = v.toNat % 256 := by
  simp [loByte]

theorem toNat_hiByte (v : Addr) : (hiByte v).toNat = v.toNat / 256 := by
  have := v.isLt
  simp [hiByte, Nat.shiftRight_eq_div_pow]
  omega

@[simp] theorem loByte_joinBytes (h l : Byte) : loByte (joinBytes h l) = l :=
  BitVec.eq_of_toNat_eq (by have := l.isLt; rw [toNat_loByte, toNat_joinBytes]; omega)

@[simp] theorem hiByte_joinBytes (h l : Byte) : hiByte (joinBytes h l) = h :=
  BitVec.eq_of_toNat_eq (by have := l.isLt; rw [toNat_hiByte, toNat_joinBytes]; omega)

@[simp] theorem joinBytes_hi_lo (v : Addr) : joinBytes (hiByte v) (loByte v) = v :=
  BitVec.eq_of_toNat_eq (by rw [toNat_joinBytes, toNat_hiByte, toNat_loByte]; omega)

end Sys2Proof
end

