-- ==== Sys2Proof/Laws/State.lean ====
section
/-! SUPPORT. What each update of State writes and what it leaves, one lemma per field, so that no proof unfolds a record
update. -/

namespace Sys2Proof.Machine.State

@[simp] theorem setA_cpu (s : State) (v : Byte) : (s.setA v).cpu = { s.cpu with a := v } := rfl
@[simp] theorem setA_irq (s : State) (v : Byte) : (s.setA v).irq = s.irq := rfl
@[simp] theorem setA_timer (s : State) (v : Byte) : (s.setA v).timer = s.timer := rfl
@[simp] theorem setA_ppu (s : State) (v : Byte) : (s.setA v).ppu = s.ppu := rfl
@[simp] theorem setA_mem (s : State) (v : Byte) : (s.setA v).mem = s.mem := rfl
@[simp] theorem setA_cart (s : State) (v : Byte) : (s.setA v).cart = s.cart := rfl
@[simp] theorem setA_params (s : State) (v : Byte) : (s.setA v).params = s.params := rfl
@[simp] theorem setA_extIrq (s : State) (v : Byte) : (s.setA v).extIrq = s.extIrq := rfl
@[simp] theorem setA_draws (s : State) (v : Byte) : (s.setA v).draws = s.draws := rfl
@[simp] theorem setA_cycles (s : State) (v : Byte) : (s.setA v).cycles = s.cycles := rfl

@[simp] theorem setFlags_cpu (s : State) (f : Flags) : (s.setFlags f).cpu = { s.cpu with flags := f } := rfl
@[simp] theorem setFlags_irq (s : State) (f : Flags) : (s.setFlags f).irq = s.irq := rfl
@[simp] theorem setFlags_timer (s : State) (f : Flags) : (s.setFlags f).timer = s.timer := rfl
@[simp] theorem setFlags_ppu (s : State) (f : Flags) : (s.setFlags f).ppu = s.ppu := rfl
@[simp] theorem setFlags_mem (s : State) (f : Flags) : (s.setFlags f).mem = s.mem := rfl
@[simp] theorem setFlags_cart (s : State) (f : Flags) : (s.setFlags f).cart = s.cart := rfl
@[simp] theorem setFlags_params (s : State) (f : Flags) : (s.setFlags f).params = s.params := rfl
@[simp] theorem setFlags_extIrq (s : State) (f : Flags) : (s.setFlags f).extIrq = s.extIrq := rfl
@[simp] theorem setFlags_draws (s : State) (f : Flags) : (s.setFlags f).draws = s.draws := rfl
@[simp] theorem setFlags_cycles (s : State) (f : Flags) : (s.setFlags f).cycles = s.cycles := rfl

@[simp] theorem setSp_cpu (s : State) (v : Addr) : (s.setSp v).cpu = { s.cpu with sp := v } := rfl
@[simp] theorem setSp_irq (s : State) (v : Addr) : (s.setSp v).irq = s.irq := rfl
@[simp] theorem setSp_timer (s : State) (v : Addr) : (s.setSp v).timer = s.timer := rfl
@[simp] theorem setSp_ppu (s : State) (v : Addr) : (s.setSp v).ppu = s.ppu := rfl
@[simp] theorem setSp_mem (s : State) (v : Addr) : (s.setSp v).mem = s.mem := rfl
@[simp] theorem setSp_cart (s : State) (v : Addr) : (s.setSp v).cart = s.cart := rfl
@[simp] theorem setSp_params (s : State) (v : Addr) : (s.setSp v).params = s.params := rfl
@[simp] theorem setSp_extIrq (s : State) (v : Addr) : (s.setSp v).extIrq = s.extIrq := rfl
@[simp] theorem setSp_draws (s : State) (v : Addr) : (s.setSp v).draws = s.draws := rfl
@[simp] theorem setSp_cycles (s : State) (v : Addr) : (s.setSp v).cycles = s.cycles := rfl

@[simp] theorem setPc_cpu (s : State) (v : Addr) : (s.setPc v).cpu = { s.cpu with pc := v } := rfl
@[simp] theorem setPc_irq (s : State) (v : Addr) : (s.setPc v).irq = s.irq := rfl
@[simp] theorem setPc_timer (s : State) (v : Addr) : (s.setPc v).timer = s.timer := rfl
@[simp] theorem setPc_ppu (s : State) (v : Addr) : (s.setPc v).ppu = s.ppu := rfl
@[simp] theorem setPc_mem (s : State) (v : Addr) : (s.setPc v).mem = s.mem := rfl
@[simp] theorem setPc_cart (s : State) (v : Addr) : (s.setPc v).cart = s.cart := rfl
@[simp] theorem setPc_params (s : State) (v : Addr) : (s.setPc v).params = s.params := rfl
@[simp] theorem setPc_extIrq (s : State) (v : Addr) : (s.setPc v).extIrq = s.extIrq := rfl
@[simp] theorem setPc_draws (s : State) (v : Addr) : (s.setPc v).draws = s.draws := rfl
@[simp] theorem setPc_cycles (s : State) (v : Addr) : (s.setPc v).cycles = s.cycles := rfl

@[simp] theorem setAf_cpu (s : State) (v : Addr) : (s.setAf v).cpu = { s.cpu with a := hiByte v, flags := Flags.ofByte (loByte v) } := rfl
@[simp] theorem setAf_irq (s : State) (v : Addr) : (s.setAf v).irq = s.irq := rfl
@[simp] theorem setAf_timer (s : State) (v : Addr) : (s.setAf v).timer = s.timer := rfl
@[simp] theorem setAf_ppu (s : State) (v : Addr) : (s.setAf v).ppu = s.ppu := rfl
@[simp] theorem setAf_mem (s : State) (v : Addr) : (s.setAf v).mem = s.mem := rfl
@[simp] theorem setAf_cart (s : State) (v : Addr) : (s.setAf v).cart = s.cart := rfl
@[simp] theorem setAf_params (s : State) (v : Addr) : (s.setAf v).params = s.params := rfl
@[simp] theorem setAf_extIrq (s : State) (v : Addr) : (s.setAf v).extIrq = s.extIrq := rfl
@[simp] theorem setAf_draws (s : State) (v : Addr) : (s.setAf v).draws = s.draws := rfl
@[simp] theorem setAf_cycles (s : State) (v : Addr) : (s.setAf v).cycles = s.cycles := rfl

@[simp] theorem setBc_cpu (s : State) (v : Addr) : (s.setBc v).cpu = { s.cpu with b := hiByte v, c := loByte v } := rfl
@[simp] theorem setBc_irq (s : State) (v : Addr) : (s.setBc v).irq = s.irq := rfl
@[simp] theorem setBc_timer (s : State) (v : Addr) : (s.setBc v).timer = s.timer := rfl
@[simp] theorem setBc_ppu (s : State) (v : Addr) : (s.setBc v).ppu = s.ppu := rfl
@[simp] theorem setBc_mem (s : State) (v : Addr) : (s.setBc v).mem = s.mem := rfl
@[simp] theorem setBc_cart (s : State) (v : Addr) : (s.setBc v).cart = s.cart := rfl
@[simp] theorem setBc_params (s : State) (v : Addr) : (s.setBc v).params = s.params := rfl
@[simp] theorem setBc_extIrq (s : State) (v : Addr) : (s.setBc v).extIrq = s.extIrq := rfl
@[simp] theorem setBc_draws (s : State) (v : Addr) : (s.setBc v).draws = s.draws := rfl
@[simp] theorem setBc_cycles (s : State) (v : Addr) : (s.setBc v).cycles = s.cycles := rfl

@[simp] theorem setDe_cpu (s : State) (v : Addr) : (s.setDe v).cpu = { s.cpu with d := hiByte v, e := loByte v } := rfl
@[simp] theorem setDe_irq (s : State) (v : Addr) : (s.setDe v).irq = s.irq := rfl
@[simp] theorem setDe_timer (s : State) (v : Addr) : (s.setDe v).timer = s.timer := rfl
@[simp] theorem setDe_ppu (s : State) (v : Addr) : (s.setDe v).ppu = s.ppu := rfl
@[simp] theorem setDe_mem (s : State) (v : Addr) : (s.setDe v).mem = s.mem := rfl
@[simp] theorem setDe_cart (s : State) (v : Addr) : (s.setDe v).cart = s.cart := rfl
@[simp] theorem setDe_params (s : State) (v : Addr) : (s.setDe v).params = s.params := rfl
@[simp] theorem setDe_extIrq (s : State) (v : Addr) : (s.setDe v).extIrq = s.extIrq := rfl
@[simp] theorem setDe_draws (s : State) (v : Addr) : (s.setDe v).draws = s.draws := rfl
@[simp] theorem setDe_cycles (s : State) (v : Addr) : (s.setDe v).cycles = s.cycles := rfl

@[simp] theorem setHl_cpu (s : State) (v : Addr) : (s.setHl v).cpu = { s.cpu with h := hiByte v, l := loByte v } := rfl
@[simp] theorem setHl_irq (s : State) (v : Addr) : (s.setHl v).irq = s.irq := rfl
@[simp] theorem setHl_timer (s : State) (v : Addr) : (s.setHl v).timer = s.timer := rfl
@[simp] theorem setHl_ppu (s : State) (v : Addr) : (s.setHl v).ppu = s.ppu := rfl
@[simp] theorem setHl_mem (s : State) (v : Addr) : (s.setHl v).mem = s.mem := rfl
@[simp] theorem setHl_cart (s : State) (v : Addr) : (s.setHl v).cart = s.cart := rfl
@[simp] theorem setHl_params (s : State) (v : Addr) : (s.setHl v).params = s.params := rfl
@[simp] theorem setHl_extIrq (s : State) (v : Addr) : (s.setHl v).extIrq = s.extIrq := rfl
@[simp] theorem setHl_draws (s : State) (v : Addr) : (s.setHl v).draws = s.draws := rfl
@[simp] theorem setHl_cycles (s : State) (v : Addr) : (s.setHl v).cycles = s.cycles := rfl

@[simp] theorem spend_cpu (s : State) (n : Nat) : (s.spend n).cpu = s.cpu := rfl
@[simp] theorem spend_irq (s : State) (n : Nat) : (s.spend n).irq = s.irq := rfl
@[simp] theorem spend_timer (s : State) (n : Nat) : (s.spend n).timer = s.timer := rfl
@[simp] theorem spend_ppu (s : State) (n : Nat) : (s.spend n).ppu = s.ppu := rfl
@[simp] theorem spend_mem (s : State) (n : Nat) : (s.spend n).mem = s.mem := rfl
@[simp] theorem spend_cart (s : State) (n : Nat) : (s.spend n).cart = s.cart := rfl
@[simp] theorem spend_params (s : State) (n : Nat) : (s.spend n).params = s.params := rfl
@[simp] theorem spend_extIrq (s : State) (n : Nat) : (s.spend n).extIrq = s.extIrq := rfl
@[simp] theorem spend_draws (s : State) (n : Nat) : (s.spend n).draws = s.draws := rfl
@[simp] theorem spend_cycles (s : State) (n : Nat) : (s.spend n).cycles = n := rfl

@[simp] theorem request_cpu (s : State) (m : BitVec 5) : (s.request m).cpu = s.cpu := rfl
@[simp] theorem request_irq (s : State) (m : BitVec 5) : (s.request m).irq = { s.irq with ifr := s.irq.ifr ||| m } := rfl
@[simp] theorem request_timer (s : State) (m : BitVec 5) : (s.request m).timer = s.timer := rfl
@[simp] theorem request_ppu (s : State) (m : BitVec 5) : (s.request m).ppu = s.ppu := rfl
@[simp] theorem request_mem (s : State) (m : BitVec 5) : (s.request m).mem = s.mem := rfl
@[simp] theorem request_cart (s : State) (m : BitVec 5) : (s.request m).cart = s.cart := rfl
@[simp] theorem request_params (s : State) (m : BitVec 5) : (s.request m).params = s.params := rfl
@[simp] theorem request_extIrq (s : State) (m : BitVec 5) : (s.request m).extIrq = s.extIrq := rfl
@[simp] theorem request_draws (s : State) (m : BitVec 5) : (s.request m).draws = s.draws := rfl
@[simp] theorem request_cycles (s : State) (m : BitVec 5) : (s.request m).cycles = s.cycles := rfl

@[simp] theorem setPpu_cpu (s : State) (r : Ppu × BitVec 5) : (s.setPpu r).cpu = s.cpu := rfl
@[simp] theorem setPpu_irq (s : State) (r : Ppu × BitVec 5) : (s.setPpu r).irq = { s.irq with ifr := s.irq.ifr ||| r.2 } := rfl
@[simp] theorem setPpu_timer (s : State) (r : Ppu × BitVec 5) : (s.setPpu r).timer = s.timer := rfl
@[simp] theorem setPpu_ppu (s : State) (r : Ppu × BitVec 5) : (s.setPpu r).ppu = r.1 := rfl
@[simp] theorem setPpu_mem (s : State) (r : Ppu × BitVec 5) : (s.setPpu r).mem = s.mem := rfl
@[simp] theorem setPpu_cart (s : State) (r : Ppu × BitVec 5) : (s.setPpu r).cart = s.cart := rfl
@[simp] theorem setPpu_params (s : State) (r : Ppu × BitVec 5) : (s.setPpu r).params = s.params := rfl
@[simp] theorem setPpu_extIrq (s : State) (r : Ppu × BitVec 5) : (s.setPpu r).extIrq = s.extIrq := rfl
@[simp] theorem setPpu_draws (s : State) (r : Ppu × BitVec 5) : (s.setPpu r).draws = s.draws := rfl
@[simp] theorem setPpu_cycles (s : State) (r : Ppu × BitVec 5) : (s.setPpu r).cycles = s.cycles := rfl

@[simp] theorem setMem_cpu (s : State) (a : Addr) (v : Byte) : (s.setMem a v).cpu = s.cpu := rfl
@[simp] theorem setMem_irq (s : State) (a : Addr) (v : Byte) : (s.setMem a v).irq = s.irq := rfl
@[simp] theorem setMem_timer (s : State) (a : Addr) (v : Byte) : (s.setMem a v).timer = s.timer := rfl
@[simp] theorem setMem_ppu (s : State) (a : Addr) (v : Byte) : (s.setMem a v).ppu = s.ppu := rfl
@[simp] theorem setMem_mem (s : State) (a : Addr) (v : Byte) : (s.setMem a v).mem = Store.set s.mem (memKey a) v := rfl
@[simp] theorem setMem_cart (s : State) (a : Addr) (v : Byte) : (s.setMem a v).cart = s.cart := rfl
@[simp] theorem setMem_params (s : State) (a : Addr) (v : Byte) : (s.setMem a v).params = s.params := rfl
@[simp] theorem setMem_extIrq (s : State) (a : Addr) (v : Byte) : (s.setMem a v).extIrq = s.extIrq := rfl
@[simp] theorem setMem_draws (s : State) (a : Addr) (v : Byte) : (s.setMem a v).draws = s.draws := rfl
@[simp] theorem setMem_cycles (s : State) (a : Addr) (v : Byte) : (s.setMem a v).cycles = s.cycles := rfl

@[simp] theorem raiseIllegalOpcode_cpu (s : State) : s.raiseIllegalOpcode.cpu = { s.cpu with lock := true } := rfl
@[simp] theorem raiseIllegalOpcode_irq (s : State) : s.raiseIllegalOpcode.irq = s.irq := rfl
@[simp] theorem raiseIllegalOpcode_timer (s : State) : s.raiseIllegalOpcode.timer = s.timer := rfl
@[simp] theorem raiseIllegalOpcode_ppu (s : State) : s.raiseIllegalOpcode.ppu = s.ppu := rfl
@[simp] theorem raiseIllegalOpcode_mem (s : State) : s.raiseIllegalOpcode.mem = s.mem := rfl
@[simp] theorem raiseIllegalOpcode_cart (s : State) : s.raiseIllegalOpcode.cart = s.cart := rfl
@[simp] theorem raiseIllegalOpcode_params (s : State) : s.raiseIllegalOpcode.params = s.params := rfl
@[simp] theorem raiseIllegalOpcode_extIrq (s : State) : s.raiseIllegalOpcode.extIrq = s.extIrq := rfl
@[simp] theorem raiseIllegalOpcode_draws (s : State) : s.raiseIllegalOpcode.draws = s.draws := rfl
@[simp] theorem raiseIllegalOpcode_cycles (s : State) : s.raiseIllegalOpcode.cycles = s.cycles := rfl

@[simp] theorem acceptExt_cpu (s : State) : s.acceptExt.cpu = s.cpu := rfl
@[simp] theorem acceptExt_irq (s : State) : s.acceptExt.irq = { s.irq with ifr := s.irq.ifr ||| s.ext.mask } := rfl
@[simp] theorem acceptExt_timer (s : State) : s.acceptExt.timer = s.timer := rfl
@[simp] theorem acceptExt_ppu (s : State) : s.acceptExt.ppu = s.ppu := rfl
@[simp] theorem acceptExt_mem (s : State) : s.acceptExt.mem = s.mem := rfl
@[simp] theorem acceptExt_cart (s : State) : s.acceptExt.cart = s.cart := rfl
@[simp] theorem acceptExt_params (s : State) : s.acceptExt.params = s.params := rfl
@[simp] theorem acceptExt_extIrq (s : State) : s.acceptExt.extIrq = s.extIrq.tail := rfl
@[simp] theorem acceptExt_draws (s : State) : s.acceptExt.draws = s.draws := rfl
@[simp] theorem acceptExt_cycles (s : State) : s.acceptExt.cycles = s.cycles := rfl

@[simp] theorem wakeStop_irq (s : State) (x : ExtIrq) : (s.wakeStop x).irq = s.irq := by
  unfold wakeStop; split <;> rfl
@[simp] theorem wakeStop_timer (s : State) (x : ExtIrq) : (s.wakeStop x).timer = s.timer := by
  unfold wakeStop; split <;> rfl
@[simp] theorem wakeStop_ppu (s : State) (x : ExtIrq) : (s.wakeStop x).ppu = s.ppu := by
  unfold wakeStop; split <;> rfl
@[simp] theorem wakeStop_mem (s : State) (x : ExtIrq) : (s.wakeStop x).mem = s.mem := by
  unfold wakeStop; split <;> rfl
@[simp] theorem wakeStop_cart (s : State) (x : ExtIrq) : (s.wakeStop x).cart = s.cart := by
  unfold wakeStop; split <;> rfl
@[simp] theorem wakeStop_params (s : State) (x : ExtIrq) : (s.wakeStop x).params = s.params := by
  unfold wakeStop; split <;> rfl
@[simp] theorem wakeStop_extIrq (s : State) (x : ExtIrq) : (s.wakeStop x).extIrq = s.extIrq := by
  unfold wakeStop; split <;> rfl
@[simp] theorem wakeStop_draws (s : State) (x : ExtIrq) : (s.wakeStop x).draws = s.draws := by
  unfold wakeStop; split <;> rfl
@[simp] theorem wakeStop_cycles (s : State) (x : ExtIrq) : (s.wakeStop x).cycles = s.cycles := by
  unfold wakeStop; split <;> rfl

@[simp] theorem wakeHalt_irq (s : State) : s.wakeHalt.irq = s.irq := by
  unfold wakeHalt; split <;> rfl
@[simp] theorem wakeHalt_timer (s : State) : s.wakeHalt.timer = s.timer := by
  unfold wakeHalt; split <;> rfl
@[simp] theorem wakeHalt_ppu (s : State) : s.wakeHalt.ppu = s.ppu := by
  unfold wakeHalt; split <;> rfl
@[simp] theorem wakeHalt_mem (s : State) : s.wakeHalt.mem = s.mem := by
  unfold wakeHalt; split <;> rfl
@[simp] theorem wakeHalt_cart (s : State) : s.wakeHalt.cart = s.cart := by
  unfold wakeHalt; split <;> rfl
@[simp] theorem wakeHalt_params (s : State) : s.wakeHalt.params = s.params := by
  unfold wakeHalt; split <;> rfl
@[simp] theorem wakeHalt_extIrq (s : State) : s.wakeHalt.extIrq = s.extIrq := by
  unfold wakeHalt; split <;> rfl
@[simp] theorem wakeHalt_draws (s : State) : s.wakeHalt.draws = s.draws := by
  unfold wakeHalt; split <;> rfl
@[simp] theorem wakeHalt_cycles (s : State) : s.wakeHalt.cycles = s.cycles := by
  unfold wakeHalt; split <;> rfl

@[simp] theorem retire_irq (s : State) (w : ImeDelay) : (s.retire w).irq = s.irq := by
  unfold retire; split <;> rfl
@[simp] theorem retire_timer (s : State) (w : ImeDelay) : (s.retire w).timer = s.timer := by
  unfold retire; split <;> rfl
@[simp] theorem retire_ppu (s : State) (w : ImeDelay) : (s.retire w).ppu = s.ppu := by
  unfold retire; split <;> rfl
@[simp] theorem retire_mem (s : State) (w : ImeDelay) : (s.retire w).mem = s.mem := by
  unfold retire; split <;> rfl
@[simp] theorem retire_cart (s : State) (w : ImeDelay) : (s.retire w).cart = s.cart := by
  unfold retire; split <;> rfl
@[simp] theorem retire_params (s : State) (w : ImeDelay) : (s.retire w).params = s.params := by
  unfold retire; split <;> rfl
@[simp] theorem retire_extIrq (s : State) (w : ImeDelay) : (s.retire w).extIrq = s.extIrq := by
  unfold retire; split <;> rfl
@[simp] theorem retire_draws (s : State) (w : ImeDelay) : (s.retire w).draws = s.draws := by
  unfold retire; split <;> rfl
@[simp] theorem retire_cycles (s : State) (w : ImeDelay) : (s.retire w).cycles = s.cycles := by
  unfold retire; split <;> rfl

@[simp] theorem writeR16_irq (s : State) (r : R16) (v : Addr) : (s.writeR16 r v).irq = s.irq := by cases r <;> rfl
@[simp] theorem writeR16_timer (s : State) (r : R16) (v : Addr) : (s.writeR16 r v).timer = s.timer := by cases r <;> rfl
@[simp] theorem writeR16_ppu (s : State) (r : R16) (v : Addr) : (s.writeR16 r v).ppu = s.ppu := by cases r <;> rfl
@[simp] theorem writeR16_mem (s : State) (r : R16) (v : Addr) : (s.writeR16 r v).mem = s.mem := by cases r <;> rfl
@[simp] theorem writeR16_cart (s : State) (r : R16) (v : Addr) : (s.writeR16 r v).cart = s.cart := by cases r <;> rfl
@[simp] theorem writeR16_params (s : State) (r : R16) (v : Addr) : (s.writeR16 r v).params = s.params := by cases r <;> rfl
@[simp] theorem writeR16_extIrq (s : State) (r : R16) (v : Addr) : (s.writeR16 r v).extIrq = s.extIrq := by cases r <;> rfl
@[simp] theorem writeR16_draws (s : State) (r : R16) (v : Addr) : (s.writeR16 r v).draws = s.draws := by cases r <;> rfl
@[simp] theorem writeR16_cycles (s : State) (r : R16) (v : Addr) : (s.writeR16 r v).cycles = s.cycles := by cases r <;> rfl

@[simp] theorem writeStk_irq (s : State) (r : R16Stk) (v : Addr) : (s.writeStk r v).irq = s.irq := by cases r <;> rfl
@[simp] theorem writeStk_timer (s : State) (r : R16Stk) (v : Addr) : (s.writeStk r v).timer = s.timer := by cases r <;> rfl
@[simp] theorem writeStk_ppu (s : State) (r : R16Stk) (v : Addr) : (s.writeStk r v).ppu = s.ppu := by cases r <;> rfl
@[simp] theorem writeStk_mem (s : State) (r : R16Stk) (v : Addr) : (s.writeStk r v).mem = s.mem := by cases r <;> rfl
@[simp] theorem writeStk_cart (s : State) (r : R16Stk) (v : Addr) : (s.writeStk r v).cart = s.cart := by cases r <;> rfl
@[simp] theorem writeStk_params (s : State) (r : R16Stk) (v : Addr) : (s.writeStk r v).params = s.params := by cases r <;> rfl
@[simp] theorem writeStk_extIrq (s : State) (r : R16Stk) (v : Addr) : (s.writeStk r v).extIrq = s.extIrq := by cases r <;> rfl
@[simp] theorem writeStk_draws (s : State) (r : R16Stk) (v : Addr) : (s.writeStk r v).draws = s.draws := by cases r <;> rfl
@[simp] theorem writeStk_cycles (s : State) (r : R16Stk) (v : Addr) : (s.writeStk r v).cycles = s.cycles := by cases r <;> rfl

@[simp] theorem bumpPointer_irq (s : State) (p : R16Mem) : (s.bumpPointer p).irq = s.irq := by cases p <;> rfl
@[simp] theorem bumpPointer_timer (s : State) (p : R16Mem) : (s.bumpPointer p).timer = s.timer := by cases p <;> rfl
@[simp] theorem bumpPointer_ppu (s : State) (p : R16Mem) : (s.bumpPointer p).ppu = s.ppu := by cases p <;> rfl
@[simp] theorem bumpPointer_mem (s : State) (p : R16Mem) : (s.bumpPointer p).mem = s.mem := by cases p <;> rfl
@[simp] theorem bumpPointer_cart (s : State) (p : R16Mem) : (s.bumpPointer p).cart = s.cart := by cases p <;> rfl
@[simp] theorem bumpPointer_params (s : State) (p : R16Mem) : (s.bumpPointer p).params = s.params := by cases p <;> rfl
@[simp] theorem bumpPointer_extIrq (s : State) (p : R16Mem) : (s.bumpPointer p).extIrq = s.extIrq := by cases p <;> rfl
@[simp] theorem bumpPointer_draws (s : State) (p : R16Mem) : (s.bumpPointer p).draws = s.draws := by cases p <;> rfl
@[simp] theorem bumpPointer_cycles (s : State) (p : R16Mem) : (s.bumpPointer p).cycles = s.cycles := by cases p <;> rfl

/-- The step that clears a stop clears nothing else. -/
theorem wakeStop_cpu (s : State) (x : ExtIrq) :
    (s.wakeStop x).cpu = if x.joypad then { s.cpu with stop := false } else s.cpu := by
  unfold wakeStop; split <;> rfl

/-- The halt wake clears nothing else. -/
theorem wakeHalt_cpu (s : State) :
    s.wakeHalt.cpu = if s.pending ≠ 0 then { s.cpu with halt := false } else s.cpu := by
  unfold wakeHalt; split <;> rfl

/-- Reading `r16[i]` back after writing it. -/
theorem readR16_writeR16 (s : State) (r : R16) (v : Addr) : (s.writeR16 r v).readR16 r = v := by
  cases r <;> simp [writeR16, readR16, bc, de, hl]

end Sys2Proof.Machine.State
end

