-- ==== Sys2Proof/Laws/Store.lean ====
section
/-! SUPPORT. The laws of a sparse store: a read after a write, and the canonical form, which every operation keeps. -/

namespace Sys2Proof.Machine.Store

variable {w : Nat}

/-! ### Reading -/

theorem get_erase (m : Store w) (i j : Nat) :
    get (erase m i) j = if i = j then Config.fill w else get m j := by
  induction m with
  | nil => simp [erase, get]
  | cons c rest ih =>
    obtain ⟨k, v⟩ := c
    by_cases hk : k = i
    · subst hk
      simp only [erase, ↓reduceIte, ih, get]
      split <;> rfl
    · simp only [erase, hk, ↓reduceIte, get, ih]
      by_cases hj : k = j
      · subst hj; simp [Ne.symm hk]
      · simp [hj]

theorem get_insert (m : Store w) (i j : Nat) (v : BitVec w) (h : get m i = Config.fill w) (hm : ∀ c ∈ m, c.1 ≠ i) :
    get (insert m i v) j = if i = j then v else get m j := by
  induction m with
  | nil => simp [insert, get]
  | cons c rest ih =>
    obtain ⟨k, x⟩ := c
    have hk : k ≠ i := hm (k, x) (by simp)
    have hr : ∀ c ∈ rest, c.1 ≠ i := fun c hc => hm c (by simp [hc])
    unfold insert
    split
    · simp [get]
    · simp only [get, hk, ↓reduceIte] at h ⊢
      rw [ih h hr]
      by_cases hj : k = j
      · subst hj; simp [Ne.symm hk]
      · simp [hj]

theorem not_mem_erase (m : Store w) (i : Nat) : ∀ c ∈ erase m i, c.1 ≠ i := by
  induction m with
  | nil => simp [erase]
  | cons c rest ih =>
    obtain ⟨k, v⟩ := c
    by_cases hk : k = i
    · simpa [erase, hk] using ih
    · simp only [erase, hk, ↓reduceIte, List.mem_cons]
      rintro c (rfl | hc)
      · exact hk
      · exact ih c hc

/-- A read after a write, at any two indexes. -/
theorem get_set (m : Store w) (i j : Nat) (v : BitVec w) :
    get (set m i v) j = if i = j then v else get m j := by
  unfold set
  split
  · subst v; exact get_erase m i j
  · rw [get_insert _ _ _ _ (by simp [get_erase]) (not_mem_erase m i), get_erase]
    split <;> simp_all

@[simp] theorem get_set_same (m : Store w) (i : Nat) (v : BitVec w) : get (set m i v) i = v := by
  simp [get_set]

theorem get_set_other (m : Store w) {i j : Nat} (v : BitVec w) (h : i ≠ j) : get (set m i v) j = get m j := by
  simp [get_set, h]

/-! ### The canonical form -/

theorem wfFrom_mono {lo hi : Nat} (h : lo ≤ hi) {m : Store w} (hm : wfFrom hi m = true) : wfFrom lo m = true := by
  cases m with
  | nil => rfl
  | cons c rest =>
    obtain ⟨k, v⟩ := c
    simp only [wfFrom, Bool.and_eq_true, decide_eq_true_eq] at hm ⊢
    exact ⟨⟨by omega, hm.1.2⟩, hm.2⟩

/-- Every index of a store in canonical form is at least its bound, and its entry is listed for a reason. -/
theorem wfFrom_mem {lo : Nat} {m : Store w} (hm : wfFrom lo m = true) : ∀ c ∈ m, lo ≤ c.1 ∧ c.2 ≠ Config.fill w := by
  induction m generalizing lo with
  | nil => simp
  | cons c rest ih =>
    obtain ⟨k, v⟩ := c
    simp only [wfFrom, Bool.and_eq_true, decide_eq_true_eq] at hm
    intro c hc
    rcases List.mem_cons.mp hc with rfl | hc
    · exact hm.1
    · have := ih hm.2 c hc
      exact ⟨by omega, this.2⟩

theorem wfFrom_erase {lo : Nat} {m : Store w} (hm : wfFrom lo m = true) (i : Nat) : wfFrom lo (erase m i) = true := by
  induction m generalizing lo with
  | nil => rfl
  | cons c rest ih =>
    obtain ⟨k, v⟩ := c
    simp only [wfFrom, Bool.and_eq_true, decide_eq_true_eq] at hm
    unfold erase
    split
    · exact wfFrom_mono (by omega) (ih hm.2)
    · simp only [wfFrom, Bool.and_eq_true, decide_eq_true_eq]
      exact ⟨hm.1, ih hm.2⟩

theorem wfFrom_insert {lo : Nat} {m : Store w} (hm : wfFrom lo m = true) {i : Nat} (hi : lo ≤ i)
    (hn : ∀ c ∈ m, c.1 ≠ i) {v : BitVec w} (hv : v ≠ Config.fill w) : wfFrom lo (insert m i v) = true := by
  induction m generalizing lo with
  | nil => simp [insert, wfFrom, hi, hv]
  | cons c rest ih =>
    obtain ⟨k, x⟩ := c
    have hk : k ≠ i := hn (k, x) (by simp)
    simp only [wfFrom, Bool.and_eq_true, decide_eq_true_eq] at hm
    unfold insert
    split
    · rename_i hlt
      simp only [wfFrom, Bool.and_eq_true, decide_eq_true_eq]
      exact ⟨⟨hi, hv⟩, ⟨by omega, hm.1.2⟩, hm.2⟩
    · simp only [wfFrom, Bool.and_eq_true, decide_eq_true_eq]
      exact ⟨hm.1, ih hm.2 (by omega) fun c hc => hn c (by simp [hc])⟩

/-- A write keeps the canonical form. -/
theorem wf_set {m : Store w} (hm : wf m = true) (i : Nat) (v : BitVec w) : wf (set m i v) = true := by
  unfold set
  split
  · exact wfFrom_erase hm i
  · exact wfFrom_insert (wfFrom_erase hm i) (Nat.zero_le i) (not_mem_erase m i) ‹_›

theorem wfFrom_ofRun (i : Nat) (vs : List (BitVec w)) : wfFrom i (ofRun i vs) = true := by
  induction vs generalizing i with
  | nil => rfl
  | cons v vs ih =>
    unfold ofRun
    split
    · exact wfFrom_mono (by omega) (ih (i + 1))
    · simp only [wfFrom, Bool.and_eq_true, decide_eq_true_eq]
      exact ⟨⟨le_refl i, ‹_›⟩, ih (i + 1)⟩

/-- Canonical pieces one after the other are canonical. -/
theorem wfFrom_append {lo mid : Nat} {m n : Store w} (hm : wfFrom lo m = true) (hlo : lo ≤ mid)
    (hb : ∀ c ∈ m, c.1 < mid) (hn : wfFrom mid n = true) : wfFrom lo (m ++ n) = true := by
  induction m generalizing lo with
  | nil => exact wfFrom_mono hlo hn
  | cons c rest ih =>
    obtain ⟨k, x⟩ := c
    have hk : k < mid := hb (k, x) (by simp)
    simp only [wfFrom, Bool.and_eq_true, decide_eq_true_eq] at hm
    simp only [List.cons_append, wfFrom, Bool.and_eq_true, decide_eq_true_eq]
    exact ⟨hm.1, ih hm.2 hk fun c hc => hb c (by simp [hc])⟩

theorem wfFrom_filter {lo : Nat} {m : Store w} (hm : wfFrom lo m = true) (p : Nat × BitVec w → Bool) :
    wfFrom lo (m.filter p) = true := by
  induction m generalizing lo with
  | nil => rfl
  | cons c rest ih =>
    obtain ⟨k, x⟩ := c
    simp only [wfFrom, Bool.and_eq_true, decide_eq_true_eq] at hm
    rw [List.filter_cons]
    split
    · simp only [wfFrom, Bool.and_eq_true, decide_eq_true_eq]
      exact ⟨hm.1, ih hm.2⟩
    · exact wfFrom_mono (by omega) (ih hm.2)

theorem wfFrom_filter_ge {lo n : Nat} {m : Store w} (hm : wfFrom lo m = true) :
    wfFrom n (m.filter fun c => decide (n ≤ c.1)) = true := by
  induction m generalizing lo with
  | nil => rfl
  | cons c rest ih =>
    obtain ⟨k, x⟩ := c
    simp only [wfFrom, Bool.and_eq_true, decide_eq_true_eq] at hm
    rw [List.filter_cons]
    split
    · rename_i hk
      simp only [decide_eq_true_eq] at hk
      simp only [wfFrom, Bool.and_eq_true, decide_eq_true_eq]
      exact ⟨⟨hk, hm.1.2⟩, wfFrom_filter hm.2 _⟩
    · exact ih hm.2

theorem ofRun_below (i : Nat) (vs : List (BitVec w)) : ∀ c ∈ ofRun i vs, i ≤ c.1 ∧ c.1 < i + vs.length := by
  induction vs generalizing i with
  | nil => simp [ofRun]
  | cons v vs ih =>
    unfold ofRun
    split
    · intro c hc
      have := ih (i + 1) c hc
      simp only [List.length_cons]
      omega
    · intro c hc
      rcases List.mem_cons.mp hc with rfl | hc
      · simp
      · have := ih (i + 1) c hc
        simp only [List.length_cons]
        omega

/-- Replacing a run keeps the canonical form. -/
theorem wf_setRun {m : Store w} (hm : wf m = true) (i : Nat) (vs : List (BitVec w)) : wf (setRun m i vs) = true := by
  unfold setRun wf
  rw [List.append_assoc]
  refine wfFrom_append (mid := i) (wfFrom_filter hm _) (Nat.zero_le i) (by simp) ?_
  exact wfFrom_append (mid := i + vs.length) (wfFrom_ofRun i vs) (by omega)
    (fun c hc => (ofRun_below i vs c hc).2) (wfFrom_filter_ge hm)

/-! ### Bounds on the indexes -/

theorem mem_erase {m : Store w} {i : Nat} {c : Nat × BitVec w} (h : c ∈ erase m i) : c ∈ m := by
  induction m with
  | nil => simp [erase] at h
  | cons d rest ih =>
    obtain ⟨k, x⟩ := d
    unfold erase at h
    split at h
    · exact List.mem_cons_of_mem _ (ih h)
    · rcases List.mem_cons.mp h with rfl | h
      · simp
      · exact List.mem_cons_of_mem _ (ih h)

theorem mem_insert {m : Store w} {i : Nat} {v : BitVec w} {c : Nat × BitVec w} (h : c ∈ insert m i v) :
    c = (i, v) ∨ c ∈ m := by
  induction m with
  | nil => simpa [insert] using h
  | cons d rest ih =>
    obtain ⟨k, x⟩ := d
    unfold insert at h
    split at h
    · simpa using h
    · rcases List.mem_cons.mp h with rfl | h
      · simp
      · rcases ih h with h | h
        · exact .inl h
        · exact .inr (List.mem_cons_of_mem _ h)

/-- What a write lists is the new cell or was listed before. -/
theorem mem_set {m : Store w} {i : Nat} {v : BitVec w} {c : Nat × BitVec w} (h : c ∈ set m i v) :
    c = (i, v) ∨ c ∈ m := by
  unfold set at h
  split at h
  · exact .inr (mem_erase h)
  · exact (mem_insert h).imp_right mem_erase

/-- A property of every cell is kept by a write whose cell has it. -/
theorem all_set {m : Store w} {p : Nat × BitVec w → Bool} (hm : m.all p = true) {i : Nat} {v : BitVec w}
    (h : p (i, v) = true) : (set m i v).all p = true := by
  rw [List.all_eq_true] at hm ⊢
  intro c hc
  rcases mem_set hc with rfl | hc
  · exact h
  · exact hm c hc

theorem below_set {m : Store w} {n : Nat} (hm : below n m = true) {i : Nat} (hi : i < n) (v : BitVec w) :
    below n (set m i v) = true :=
  all_set hm (by simpa using hi)

theorem below_setRun {m : Store w} {n : Nat} (hm : below n m = true) {i : Nat} {vs : List (BitVec w)}
    (hi : i + vs.length ≤ n) : below n (setRun m i vs) = true := by
  unfold below setRun at *
  rw [List.all_eq_true] at hm ⊢
  intro c hc
  simp only [List.mem_append, List.mem_filter] at hc
  rcases hc with (hc | hc) | hc
  · exact hm c hc.1
  · have := ofRun_below i vs c hc
    simp only [decide_eq_true_eq]
    omega
  · exact hm c hc.1

/-! ### Reading a run -/

theorem get_eq_fill {m : Store w} {i : Nat} (h : ∀ c ∈ m, c.1 ≠ i) : get m i = Config.fill w := by
  induction m with
  | nil => rfl
  | cons c rest ih =>
    obtain ⟨k, x⟩ := c
    have hk : k ≠ i := h (k, x) (by simp)
    simp only [get, hk, ↓reduceIte]
    exact ih fun c hc => h c (by simp [hc])

theorem get_append {m n : Store w} {i : Nat} :
    get (m ++ n) i = if ∃ c ∈ m, c.1 = i then get m i else get n i := by
  induction m with
  | nil => simp
  | cons c rest ih =>
    obtain ⟨k, x⟩ := c
    by_cases hk : k = i
    · simp [get, hk]
    · simp [get, hk, ih]

theorem get_filter {m : Store w} (p : Nat → Bool) (i : Nat) :
    get (m.filter fun c => p c.1) i = if p i then get m i else Config.fill w := by
  induction m with
  | nil => simp [get]
  | cons c rest ih =>
    obtain ⟨k, x⟩ := c
    rw [List.filter_cons]
    by_cases hk : k = i
    · subst hk
      by_cases hp : p k <;> simp [get, hp, ih]
    · by_cases hp : p k <;> simp [get, hp, hk, ih]

theorem get_ofRun (i : Nat) (vs : List (BitVec w)) (j : Nat) :
    get (ofRun i vs) j = if i ≤ j then vs.getD (j - i) (Config.fill w) else Config.fill w := by
  induction vs generalizing i with
  | nil => simp [ofRun, get]
  | cons v vs ih =>
    have key : get (ofRun i (v :: vs)) j = if i = j then v else get (ofRun (i + 1) vs) j := by
      simp only [ofRun]
      split
      · rename_i hv
        split
        · rename_i hj; subst hj
          rw [hv]
          exact get_eq_fill fun c hc => by have := (ofRun_below (i + 1) vs c hc).1; omega
        · rfl
      · simp [get]
    rw [key, ih]
    by_cases hij : i = j
    · subst hij; simp
    · by_cases hle : i ≤ j
      · have h1 : i + 1 ≤ j := by omega
        have h2 : j - i = (j - (i + 1)) + 1 := by omega
        simp [hij, hle, h1, h2]
      · have h1 : ¬ i + 1 ≤ j := by omega
        simp [hij, hle, h1]

/-- A read after a run is replaced. -/
theorem get_setRun (m : Store w) (i : Nat) (vs : List (BitVec w)) (j : Nat) :
    get (setRun m i vs) j =
      if i ≤ j ∧ j < i + vs.length then vs.getD (j - i) (Config.fill w) else get m j := by
  unfold setRun
  rw [List.append_assoc, get_append, get_append, get_ofRun,
    get_filter (fun k => decide (k < i)), get_filter (fun k => decide (i + vs.length ≤ k))]
  by_cases h1 : j < i
  · have h2 : ¬ i ≤ j := by omega
    have h3 : ¬ i + vs.length ≤ j := by omega
    simp only [h1, h2, h3, decide_true, decide_false, ↓reduceIte, false_and]
    split
    · rfl
    · rename_i hno
      have hm : ∀ c ∈ m, c.1 ≠ j := by
        intro c hc hcj
        exact hno ⟨c, List.mem_filter.mpr ⟨hc, by simpa [hcj] using h1⟩, hcj⟩
      rw [get_eq_fill hm]
      split <;> rfl
  · have h2 : i ≤ j := by omega
    have hno : ¬ ∃ c ∈ m.filter (fun c => decide (c.1 < i)), c.1 = j := by
      rintro ⟨c, hc, rfl⟩
      simp only [List.mem_filter, decide_eq_true_eq] at hc
      omega
    rw [if_neg hno]
    by_cases h3 : j < i + vs.length
    · have h4 : ¬ i + vs.length ≤ j := by omega
      simp only [h2, h3, h4, decide_false, ↓reduceIte, and_self]
      split
      · rfl
      · rename_i hno'
        have hg : get (ofRun i vs) j = Config.fill w := get_eq_fill fun c hc hcj => hno' ⟨c, hc, hcj⟩
        rw [get_ofRun, if_pos h2] at hg
        rw [hg]
        rfl
    · have h4 : i + vs.length ≤ j := by omega
      have hno' : ¬ ∃ c ∈ ofRun i vs, c.1 = j := by
        rintro ⟨c, hc, rfl⟩
        have := (ofRun_below i vs c hc).2
        omega
      simp [hno', h3, h4]

/-! ### A run given by a function -/

theorem get_fillRun (m : Store w) (i n : Nat) (f : Nat → BitVec w) (j : Nat) :
    get (fillRun m i n f) j = if i ≤ j ∧ j < i + n then f j else get m j := by
  unfold fillRun
  rw [get_setRun, List.length_map, List.length_range]
  split
  · rename_i h
    rw [List.getD_eq_getElem _ _ (by simp; omega)]
    simp only [List.getElem_map, List.getElem_range]
    congr 1
    omega
  · rfl

theorem wf_fillRun {m : Store w} (hm : wf m = true) (i n : Nat) (f : Nat → BitVec w) :
    wf (fillRun m i n f) = true := by
  unfold fillRun
  exact wf_setRun hm i _

theorem mem_ofRun {i : Nat} {vs : List (BitVec w)} {c : Nat × BitVec w} (h : c ∈ ofRun i vs) :
    i ≤ c.1 ∧ c.1 < i + vs.length ∧ c.2 = vs.getD (c.1 - i) (Config.fill w) := by
  induction vs generalizing i with
  | nil => simp [ofRun] at h
  | cons v vs ih =>
    have step : c ∈ ofRun (i + 1) vs →
        i ≤ c.1 ∧ c.1 < i + (v :: vs).length ∧ c.2 = (v :: vs).getD (c.1 - i) (Config.fill w) := by
      intro hc
      obtain ⟨h1, h2, h3⟩ := ih hc
      have e : c.1 - i = (c.1 - (i + 1)) + 1 := by omega
      refine ⟨by omega, by simp only [List.length_cons]; omega, ?_⟩
      rw [h3, e, List.getD_cons_succ]
    unfold ofRun at h
    split at h
    · exact step h
    · rcases List.mem_cons.mp h with rfl | h
      · exact ⟨le_refl _, by simp, by simp⟩
      · exact step h

/-- An entry of a store with a run given by a function is one of the run's or one of the store's. -/
theorem mem_fillRun {m : Store w} {i n : Nat} {f : Nat → BitVec w} {c : Nat × BitVec w} (h : c ∈ fillRun m i n f) :
    (i ≤ c.1 ∧ c.1 < i + n ∧ c.2 = f c.1) ∨ c ∈ m := by
  unfold fillRun setRun at h
  simp only [List.mem_append, List.mem_filter] at h
  rcases h with (h | h) | h
  · exact .inr h.1
  · obtain ⟨h1, h2, h3⟩ := mem_ofRun h
    rw [List.length_map, List.length_range] at h2
    refine .inl ⟨h1, h2, ?_⟩
    rw [h3, List.getD_eq_getElem _ _ (by simp; omega)]
    simp only [List.getElem_map, List.getElem_range]
    congr 1
    omega
  · exact .inr h.1

/-- A run of what unlisted entries read as lists nothing. -/
theorem fillRun_fill (i n : Nat) : fillRun ([] : Store w) i n (fun _ => Config.fill w) = [] := by
  have key : ∀ (n i : Nat), ofRun i (List.replicate n (Config.fill w)) = [] := by
    intro n
    induction n with
    | zero => intro i; rfl
    | succ n ih => intro i; simp [List.replicate_succ, ofRun, ih]
  simp [fillRun, setRun, key]

end Sys2Proof.Machine.Store

namespace Sys2Proof.Machine.Memory

/-- A write keeps the canonical form of a memory. -/
theorem wf_set {m : Memory} (hm : wf m = true) (i : Nat) (v : Byte) : wf (Store.set m i v) = true :=
  Store.wf_set hm i v

end Sys2Proof.Machine.Memory
end

