-- ==== Sys2Proof/Laws/Bus.lean ====
section
/-! SUPPORT. What the bus does, once (20_memory.md rules R70 to R88): what a read depends on, what a write leaves, and
which reads a write can change. -/

namespace Sys2Proof.Machine.State

/-! ### What a read depends on -/

/-- A read looks at the memories, the cartridge and the peripherals only. -/
theorem readWith_congr {s t : State} (r : Bool) (a : Addr) (hm : t.mem = s.mem) (hc : t.cart = s.cart)
    (ht : t.timer = s.timer) (hp : t.ppu = s.ppu) (hi : t.irq = s.irq) (hd : t.draws = s.draws) :
    t.readWith r a = s.readWith r a := by
  unfold readWith readIo vramClosed oamClosed
  rw [hm, hc, ht, hp, hi, hd]

theorem read_congr {s t : State} (a : Addr) (hm : t.mem = s.mem) (hc : t.cart = s.cart)
    (ht : t.timer = s.timer) (hp : t.ppu = s.ppu) (hi : t.irq = s.irq) (hd : t.draws = s.draws)
    (hq : t.params = s.params) : t.read a = s.read a := by
  unfold read
  rw [hq]
  exact readWith_congr _ a hm hc ht hp hi hd

/-- The registers play no part in a read. -/
@[simp] theorem read_with_cpu (s : State) (c : Cpu) (a : Addr) : ({ s with cpu := c } : State).read a = s.read a := rfl

@[simp] theorem read_with_cycles (s : State) (n : Nat) (a : Addr) : ({ s with cycles := n } : State).read a = s.read a :=
  rfl

@[simp] theorem read_setPc (s : State) (v a : Addr) : (s.setPc v).read a = s.read a := rfl
@[simp] theorem read_setSp (s : State) (v a : Addr) : (s.setSp v).read a = s.read a := rfl
@[simp] theorem read_setA (s : State) (v : Byte) (a : Addr) : (s.setA v).read a = s.read a := rfl
@[simp] theorem read_spend (s : State) (n : Nat) (a : Addr) : (s.spend n).read a = s.read a := rfl

/-! ### The OAM copy -/

@[simp] theorem vramClosed_dmaByte (v : Byte) (s : State) (i : Nat) (r : Bool) :
    (dmaByte v s i).vramClosed r = s.vramClosed r := rfl

@[simp] theorem oamClosed_dmaByte (v : Byte) (s : State) (i : Nat) (r : Bool) :
    (dmaByte v s i).oamClosed r = s.oamClosed r := rfl

@[simp] theorem vramClosed_setMem (s : State) (a : Addr) (v : Byte) (r : Bool) :
    (s.setMem a v).vramClosed r = s.vramClosed r := rfl

@[simp] theorem oamClosed_setMem (s : State) (a : Addr) (v : Byte) (r : Bool) :
    (s.setMem a v).oamClosed r = s.oamClosed r := rfl

/-- Any part of the OAM copy writes `mem` alone. -/
theorem dmaFold_frame (v : Byte) (l : List Nat) (s : State) :
    ∃ m, l.foldl (dmaByte v) s = { s with mem := m } := by
  induction l generalizing s with
  | nil => exact ⟨s.mem, rfl⟩
  | cons i l ih =>
    obtain ⟨m, hm⟩ := ih (dmaByte v s i)
    exact ⟨m, by simpa [List.foldl_cons, dmaByte] using hm⟩

/-- A copied byte is not read again: the source of byte i is no OAM byte but i itself. -/
theorem readWith_dmaByte (v : Byte) (s : State) {i j : Nat} (hi : i < 160) (hj : j < 160) (hij : i ≠ j) :
    (dmaByte v s i).readWith false (BitVec.ofNat 16 (v.toNat * 0x100 + j)) =
      s.readWith false (BitVec.ofNat 16 (v.toNat * 0x100 + j)) := by
  have hv := v.isLt
  have hn : (BitVec.ofNat 16 (v.toNat * 0x100 + j)).toNat = v.toNat * 0x100 + j := by
    simp only [BitVec.toNat_ofNat]; omega
  have hk : 0xFE00 + i ≠ memKey (BitVec.ofNat 16 (v.toNat * 0x100 + j)) := by
    by_cases he : region (BitVec.ofNat 16 (v.toNat * 0x100 + j)) = .echo
    · rw [memKey_echo he, hn]; have := region_eq_echo.mp he; omega
    · rw [memKey_of_ne_echo he, hn]; omega
  have hm : (dmaByte v s i).mem = Store.set s.mem (0xFE00 + i) (s.readWith false (BitVec.ofNat 16 (v.toNat * 0x100 + i))) :=
    rfl
  unfold readWith
  split <;> (try simp [hm, Store.get_set_other _ _ hk]) <;> rfl

/-- What the first n bytes of the copy leave in memory. -/
theorem dmaFold_get (v : Byte) (s : State) (n : Nat) (hn : n ≤ 160) (k : Nat) :
    Store.get ((List.range n).foldl (dmaByte v) s).mem k =
      if 0xFE00 ≤ k ∧ k < 0xFE00 + n then s.readWith false (BitVec.ofNat 16 (v.toNat * 0x100 + (k - 0xFE00)))
      else Store.get s.mem k := by
  have source : ∀ m, m ≤ 160 → ∀ j, m ≤ j → j < 160 →
      ((List.range m).foldl (dmaByte v) s).readWith false (BitVec.ofNat 16 (v.toNat * 0x100 + j)) =
        s.readWith false (BitVec.ofNat 16 (v.toNat * 0x100 + j)) := by
    intro m
    induction m with
    | zero => intros; rfl
    | succ m ih =>
      intro hm j hj hj'
      rw [List.range_succ, List.foldl_append, List.foldl_cons, List.foldl_nil,
        readWith_dmaByte v _ (by omega) hj' (by omega)]
      exact ih (by omega) j (by omega) hj'
  induction n with
  | zero =>
    have : ¬ (0xFE00 ≤ k ∧ k < 0xFE00 + 0) := by omega
    simp only [List.range_zero, List.foldl_nil, this, ↓reduceIte]
  | succ n ih =>
    rw [List.range_succ, List.foldl_append, List.foldl_cons, List.foldl_nil]
    show Store.get (Store.set _ (0xFE00 + n) _) k = _
    rw [Store.get_set, source n (by omega) n (le_refl n) (by omega), ih (by omega)]
    by_cases h : 0xFE00 + n = k
    · subst h; simp
    · by_cases h2 : 0xFE00 ≤ k ∧ k < 0xFE00 + n
      · have h3 : 0xFE00 ≤ k ∧ k < 0xFE00 + (n + 1) := by omega
        simp only [h, h2, h3, and_self, ↓reduceIte]
      · have h3 : ¬ (0xFE00 ≤ k ∧ k < 0xFE00 + (n + 1)) := by omega
        simp only [h, h2, h3, ↓reduceIte]

/-- A write to DMA writes DMA and `mem` alone. -/
theorem writeDma_frame (s : State) (v : Byte) : ∃ m, s.writeDma v = { s with mem := m, ppu.dma := v } := by
  unfold writeDma
  obtain ⟨m, hm⟩ := dmaFold_frame v (List.range 160) { s with ppu.dma := v }
  rw [hm]
  exact ⟨m, rfl⟩

/-- What a write to DMA leaves in memory (rule R87): OAM is the source, the rest is as before. -/
theorem writeDma_get (s : State) (v : Byte) (k : Nat) :
    Store.get (s.writeDma v).mem k =
      if 0xFE00 ≤ k ∧ k < 0xFEA0 then
        ({ s with ppu.dma := v } : State).readWith false (BitVec.ofNat 16 (v.toNat * 0x100 + (k - 0xFE00)))
      else Store.get s.mem k := by
  have h := dmaFold_get v { s with ppu.dma := v } 160 (le_refl _) k
  rw [show 0xFE00 + 160 = 0xFEA0 from rfl] at h
  unfold writeDma
  exact h

/-! ### What a write leaves -/

/-- A write to an I/O register leaves the registers, the cartridge and the model's own fields. -/
theorem writeIo_frame (s : State) (a : Addr) (v : Byte) :
    (s.writeIo a v).cpu = s.cpu ∧ (s.writeIo a v).cart = s.cart ∧ (s.writeIo a v).params = s.params ∧
      (s.writeIo a v).extIrq = s.extIrq ∧ (s.writeIo a v).draws = s.draws ∧ (s.writeIo a v).cycles = s.cycles ∧
      (s.writeIo a v).irq.ie = s.irq.ie := by
  obtain ⟨m, hm⟩ := writeDma_frame s v
  unfold writeIo
  split <;> first
    | (rw [hm]; exact ⟨rfl, rfl, rfl, rfl, rfl, rfl, rfl⟩)
    | exact ⟨rfl, rfl, rfl, rfl, rfl, rfl, rfl⟩

/-- A bus write leaves the registers and the model's own fields. -/
theorem write_frame (s : State) (a : Addr) (v : Byte) :
    (s.write a v).cpu = s.cpu ∧ (s.write a v).params = s.params ∧ (s.write a v).extIrq = s.extIrq ∧
      (s.write a v).draws = s.draws ∧ (s.write a v).cycles = s.cycles := by
  obtain ⟨h1, -, h2, h3, h4, h5, -⟩ := writeIo_frame s a v
  unfold write
  split
  · exact ⟨rfl, rfl, rfl, rfl, rfl⟩
  · split <;> exact ⟨rfl, rfl, rfl, rfl, rfl⟩
  · exact ⟨rfl, rfl, rfl, rfl, rfl⟩
  · exact ⟨rfl, rfl, rfl, rfl, rfl⟩
  · exact ⟨rfl, rfl, rfl, rfl, rfl⟩
  · split <;> exact ⟨rfl, rfl, rfl, rfl, rfl⟩
  · exact ⟨rfl, rfl, rfl, rfl, rfl⟩
  · exact ⟨h1, h2, h3, h4, h5⟩
  · exact ⟨rfl, rfl, rfl, rfl, rfl⟩
  · exact ⟨rfl, rfl, rfl, rfl, rfl⟩

@[simp] theorem write_cpu (s : State) (a : Addr) (v : Byte) : (s.write a v).cpu = s.cpu := (write_frame s a v).1
@[simp] theorem write_params (s : State) (a : Addr) (v : Byte) : (s.write a v).params = s.params :=
  (write_frame s a v).2.1
@[simp] theorem write_extIrq (s : State) (a : Addr) (v : Byte) : (s.write a v).extIrq = s.extIrq :=
  (write_frame s a v).2.2.1
@[simp] theorem write_draws (s : State) (a : Addr) (v : Byte) : (s.write a v).draws = s.draws :=
  (write_frame s a v).2.2.2.1
@[simp] theorem write_cycles (s : State) (a : Addr) (v : Byte) : (s.write a v).cycles = s.cycles :=
  (write_frame s a v).2.2.2.2

@[simp] theorem writeWord_cpu (s : State) (a v : Addr) : (s.writeWord a v).cpu = s.cpu := by simp [writeWord]
@[simp] theorem writeWord_params (s : State) (a v : Addr) : (s.writeWord a v).params = s.params := by simp [writeWord]
@[simp] theorem writeWord_extIrq (s : State) (a v : Addr) : (s.writeWord a v).extIrq = s.extIrq := by simp [writeWord]
@[simp] theorem writeWord_draws (s : State) (a v : Addr) : (s.writeWord a v).draws = s.draws := by simp [writeWord]
@[simp] theorem writeWord_cycles (s : State) (a v : Addr) : (s.writeWord a v).cycles = s.cycles := by simp [writeWord]

/-- A push writes SP and memory, no other register (rule R13). -/
@[simp] theorem push16_cpu (s : State) (v : Addr) : (s.push16 v).cpu = { s.cpu with sp := s.cpu.sp - 2 } := by
  simp [push16]

@[simp] theorem push16_params (s : State) (v : Addr) : (s.push16 v).params = s.params := by simp [push16]

/-- A pop writes SP alone (rule R13). -/
theorem pop16_state (s : State) : s.pop16.2 = { s with cpu.sp := s.cpu.sp + 2 } := rfl

/-- The registers play no part in a write. -/
theorem write_with_cpu (s : State) (c : Cpu) (a : Addr) (v : Byte) :
    ({ s with cpu := c } : State).write a v = { s.write a v with cpu := c } := by
  have dma : ∀ (l : List Nat) (t : State),
      l.foldl (dmaByte v) ({ t with cpu := c } : State) = { l.foldl (dmaByte v) t with cpu := c } := by
    intro l
    induction l with
    | nil => intro t; rfl
    | cons i l ih => intro t; exact ih (dmaByte v t i)
  unfold write
  cases region a
  case vram =>
    show (if s.vramClosed s.params.ppuAccessRestrict then _ else _) = _
    cases s.vramClosed s.params.ppuAccessRestrict <;> rfl
  case oam =>
    show (if s.oamClosed s.params.ppuAccessRestrict then _ else _) = _
    cases s.oamClosed s.params.ppuAccessRestrict <;> rfl
  case io =>
    dsimp only
    unfold writeIo
    cases ioReg a
    case dma =>
      dsimp only
      unfold writeDma
      generalize List.range 160 = l
      exact dma l { s with ppu.dma := v }
    all_goals rfl
  all_goals rfl

/-- Lowering SP before a write does not change what the write does elsewhere. -/
theorem write_setSp (s : State) (p a : Addr) (v : Byte) : (s.setSp p).write a v = (s.write a v).setSp p := by
  unfold setSp
  rw [write_with_cpu, write_cpu]

/-- A push (rule R13): the low byte at SP - 2, then the high byte at SP - 1, and SP lower by 2. -/
theorem push16_eq (s : State) (v : Addr) :
    s.push16 v =
      { (s.write (s.cpu.sp - 2) (loByte v)).write (s.cpu.sp - 1) (hiByte v) with
        cpu := { s.cpu with sp := s.cpu.sp - 2 } } := by
  have e : s.cpu.sp - 2 + 1 = s.cpu.sp - 1 := BitVec.eq_of_toNat_eq (by simp; omega)
  have hw : s.push16 v = (s.writeWord (s.cpu.sp - 2) v).setSp (s.cpu.sp - 2) := by
    unfold push16 writeWord
    rw [write_setSp, write_setSp]
  have hc := writeWord_cpu s (s.cpu.sp - 2) v
  rw [hw]
  unfold setSp
  rw [hc]
  unfold writeWord
  rw [e]

/-- A push of a state with other registers: what it stores is as before, at the new SP. -/
theorem push16_with_cpu (s : State) (c : Cpu) (v : Addr) :
    ({ s with cpu := c } : State).push16 v =
      { (s.write (c.sp - 2) (loByte v)).write (c.sp - 1) (hiByte v) with cpu := { c with sp := c.sp - 2 } } := by
  have h1 := write_with_cpu s c (c.sp - 2) (loByte v)
  have h2 := write_with_cpu (s.write (c.sp - 2) (loByte v)) c (c.sp - 1) (hiByte v)
  refine (push16_eq ({ s with cpu := c } : State) v).trans ?_
  show ({ ((({ s with cpu := c } : State).write (c.sp - 2) (loByte v)).write (c.sp - 1) (hiByte v)) with
    cpu := { c with sp := c.sp - 2 } } : State) = _
  rw [h1, h2]

/-! ### Which reads a write can change -/

theorem isMemory_of_region {a : Addr}
    (h : region a = .vram ∨ region a = .wram ∨ region a = .echo ∨ region a = .oam ∨ region a = .hram) :
    isMemory a = true := isMemory_iff.mpr h

/-- Storing a memory byte changes what the addresses with its key read. -/
theorem readWith_setMem {s : State} (r : Bool) {a b : Addr} (v : Byte)
    (h : (isMemory b && decide (memKey a = memKey b)) = false) : (s.setMem a v).readWith r b = s.readWith r b := by
  by_cases hb : isMemory b = true
  · have hk : memKey a ≠ memKey b := by simpa [hb] using h
    unfold readWith
    split <;> (try simp [Store.get_set_other _ _ hk]) <;> rfl
  · have hb' : ¬ (region b = .vram ∨ region b = .wram ∨ region b = .echo ∨ region b = .oam ∨ region b = .hram) :=
      fun h => hb (isMemory_of_region h)
    unfold readWith
    split <;> simp_all <;> rfl

end Sys2Proof.Machine.State
end

