-- ==== Sys2Proof/Laws/Cartridge.lean ====
section
/-! SUPPORT. What a write to the cartridge leaves (20_memory.md rules R73, R75, R94 to R101), and that it keeps
`Cartridge.Ok`. -/

namespace Sys2Proof.Machine.Cartridge

/-- The kind of a bank controller (rule R52). -/
def kindOf : Mbc → Kind
  | .none => .none
  | .mbc1 _ => .mbc1
  | .mbc2 _ => .mbc2
  | .mbc3 _ => .mbc3
  | .mbc5 _ => .mbc5

/-- A bank-register write writes the bank registers alone. -/
theorem writeRegister_frame (c : Cartridge) (a : Addr) (v : Byte) :
    ∃ m, c.writeRegister a v = { c with mbc := m } ∧ kindOf m = kindOf c.mbc := by
  refine ⟨_, rfl, ?_⟩
  cases c.mbc <;> rfl

/-- A write to the window writes external RAM or the clock. -/
theorem writeRam_frame (c : Cartridge) (a : Addr) (v : Byte) :
    ∃ r m, c.writeRam a v = { c with extRam := r, mbc := m } ∧ kindOf m = kindOf c.mbc := by
  unfold writeRam
  split
  · exact ⟨c.extRam, c.mbc, rfl, rfl⟩
  · exact ⟨_, c.mbc, rfl, rfl⟩
  · exact ⟨_, c.mbc, rfl, rfl⟩
  · split
    · rename_i m hm; exact ⟨c.extRam, _, rfl, by rw [hm]; rfl⟩
    · exact ⟨c.extRam, c.mbc, rfl, rfl⟩

theorem tickRtc_frame (c : Cartridge) (d : Nat) :
    ∃ m, c.tickRtc d = { c with mbc := m } ∧ kindOf m = kindOf c.mbc := by
  unfold tickRtc
  split
  · rename_i m hm; exact ⟨_, rfl, by rw [hm]; rfl⟩
  · exact ⟨c.mbc, rfl, rfl⟩

/-- A write to the window does not change what the ROM shows. -/
theorem readRom_writeRam (c : Cartridge) (a b : Addr) (v : Byte) : (c.writeRam a v).readRom b = c.readRom b := by
  unfold writeRam
  split
  · rfl
  · rfl
  · rfl
  · split
    · rename_i m hm
      simp only [readRom, romIndex, romBank, hm]
    · rfl

/-! ### The invariant -/

/-- No register of a bank controller that must not be 0 becomes 0. -/
theorem banksOk_writeRegister {c : Cartridge} (h : c.banksOk) (a : Addr) (v : Byte) : (c.writeRegister a v).banksOk := by
  unfold banksOk writeRegister at *
  cases hm : c.mbc with
  | none => trivial
  | mbc1 m =>
    simp only [hm] at h ⊢
    unfold writeMbc1
    split_ifs with _ _ h0 <;> first | exact h | (dsimp only; decide) | exact h0
  | mbc2 m =>
    simp only [hm] at h ⊢
    unfold writeMbc2
    split_ifs with _ _ h0 <;> first | exact h | exact ⟨by dsimp only; decide, h.2⟩ | exact ⟨h0, h.2⟩
  | mbc3 m =>
    simp only [hm] at h ⊢
    unfold writeMbc3 latchRtc
    split_ifs with _ _ h0 <;> first | exact h | (dsimp only; decide) | exact h0
  | mbc5 m =>
    simp only [hm] at h ⊢
    unfold writeMbc5
    split_ifs with _ _ _ _ h0 <;> first
      | exact h
      | (intro _
         show (0#1 ++ v.extractLsb' 0 3).toNat < 8
         rw [BitVec.toNat_append]
         have := (v.extractLsb' 0 3).isLt
         simpa using this)
      | (intro hr; exact absurd hr h0)

theorem ok_writeRegister {c : Cartridge} (h : c.Ok) (a : Addr) (v : Byte) : (c.writeRegister a v).Ok :=
  ⟨h.rom, h.size, h.ram, h.ramSize, banksOk_writeRegister h.banks a v⟩

/-- An index that the window gives is an index of external RAM (rule R101). -/
theorem window_ram_lt {c : Cartridge} {a : Addr} {i : Nat} (h : c.window a = .ram i) : i < c.extRamLen := by
  unfold window at h
  dsimp only at h
  split at h
  · simp at h
  · rename_i h0
    have hp : 0 < c.extRamLen := Nat.pos_of_ne_zero h0
    split at h <;> (try split_ifs at h) <;>
      (simp only [Target.ram.injEq] at h; rw [← h]; exact Nat.mod_lt _ hp)

/-- The half-byte forms occur on MBC2 alone (rule R97). -/
theorem window_nibble {c : Cartridge} {a : Addr} {i : Nat} (h : c.window a = .nibble i) :
    (∃ m, c.mbc = .mbc2 m) ∧ i < 0x200 := by
  unfold window at h
  dsimp only at h
  split at h
  · simp at h
  · split at h <;> (try split_ifs at h) <;> first
      | (rename_i m hm _
         simp only [Target.nibble.injEq] at h
         exact ⟨⟨m, hm⟩, by rw [← h]; exact Nat.mod_lt _ (by decide)⟩)
      | simp at h

/-- MBC2 has no whole bytes and no clock in its window. -/
theorem window_mbc2 {c : Cartridge} {m : Mbc2} (hm : c.mbc = .mbc2 m) (a : Addr) :
    (∀ i, c.window a ≠ .ram i) ∧ ∀ sel, c.window a ≠ .rtc sel := by
  unfold window
  simp only [hm]
  cases m.ramEnable <;> (simp; try (split <;> simp))

theorem ok_writeRam {c : Cartridge} (h : c.Ok) (a : Addr) (v : Byte) : (c.writeRam a v).Ok := by
  unfold writeRam
  split
  · exact h
  · rename_i i hw
    refine ⟨h.rom, h.size, Memory.wf_set h.ram i v, Store.below_set h.ramSize (window_ram_lt hw) v, ?_⟩
    have hb := h.banks
    unfold banksOk at *
    dsimp only at *
    split at hb
    · trivial
    · exact hb
    · rename_i m hm; exact absurd hw ((window_mbc2 hm a).1 i)
    · exact hb
    · exact hb
  · rename_i i hw
    obtain ⟨⟨m, hm⟩, hi⟩ := window_nibble hw
    have hb := h.banks
    unfold banksOk at hb
    rw [hm] at hb
    dsimp only at hb
    refine ⟨h.rom, h.size, Memory.wf_set h.ram i _, Store.below_set h.ramSize (by rw [hb.2.1]; exact hi) _, ?_⟩
    unfold banksOk
    dsimp only
    rw [hm]
    refine ⟨hb.1, hb.2.1, Store.all_set hb.2.2 ?_⟩
    have : (v &&& 0x0F).toNat ≤ 15 := by
      rw [BitVec.toNat_and]; exact Nat.and_le_right
    simp only [decide_eq_true_eq]
    omega
  · split
    · rename_i m hm
      have hb := h.banks
      unfold banksOk at hb
      rw [hm] at hb
      exact ⟨h.rom, h.size, h.ram, h.ramSize, hb⟩
    · exact h

theorem ok_tickRtc {c : Cartridge} (h : c.Ok) (d : Nat) : (c.tickRtc d).Ok := by
  unfold tickRtc
  split
  · rename_i m hm
    have hb := h.banks
    unfold banksOk at hb
    rw [hm] at hb
    exact ⟨h.rom, h.size, h.ram, h.ramSize, hb⟩
  · exact h

end Sys2Proof.Machine.Cartridge

namespace Sys2Proof.Machine

/-- The outcome of building a machine for an image whose length, size code and type code are accepted. -/
theorem State.construct_of_row {rom : Memory} {len : Nat} {row : Cartridge.TypeRow} (power : PowerOn)
    (hl : ¬ (len % 0x4000 ≠ 0 ∨ len < 0x8000)) (hs : len = Cartridge.romLenOfCode (Store.get rom 0x148))
    (ht : Cartridge.typeRow (Store.get rom 0x147) = some row) :
    State.construct rom len power =
      match Cartridge.extRamLenOf row (Store.get rom 0x149) with
      | none => .fault .unsupportedCartridge
      | some n => .next (State.resetWith (.initial power rom len row n) (.initial power)) := by
  unfold State.construct
  rw [if_neg hl, if_neg (not_not.mpr hs), ht]
  all_goals (cases h : Cartridge.extRamLenOf row (Store.get rom 0x149) <;> simp [h])

/-- RAM at power-on has the contents given, at each of its addresses. -/
theorem Memory.get_initial (power : PowerOn) {i : Nat} (h : ownedKey i = true) :
    Store.get (Memory.initial power) i = power.ram i := by
  simp only [ownedKey, Bool.or_eq_true, Bool.and_eq_true, decide_eq_true_eq] at h
  unfold Memory.initial
  simp only [Store.get_fillRun]
  split_ifs <;> first | rfl | omega

theorem Memory.wf_initial (power : PowerOn) : Memory.wf (Memory.initial power) = true :=
  Store.wf_fillRun (Store.wf_fillRun (Store.wf_fillRun (Store.wf_fillRun rfl _ _ _) _ _ _) _ _ _) _ _ _

theorem Memory.owned_initial (power : PowerOn) : (Memory.initial power).all (fun e => ownedKey e.1) = true := by
  rw [List.all_eq_true]
  intro c hc
  have key : (0x8000 ≤ c.1 ∧ c.1 < 0xA000) ∨ (0xC000 ≤ c.1 ∧ c.1 < 0xE000) ∨ (0xFE00 ≤ c.1 ∧ c.1 < 0xFEA0) ∨
      (0xFF80 ≤ c.1 ∧ c.1 < 0xFFFF) := by
    rcases Store.mem_fillRun hc with h | hc
    · omega
    rcases Store.mem_fillRun hc with h | hc
    · omega
    rcases Store.mem_fillRun hc with h | hc
    · omega
    rcases Store.mem_fillRun hc with h | hc
    · omega
    · simp at hc
  simp only [ownedKey, Bool.or_eq_true, Bool.and_eq_true, decide_eq_true_eq]
  omega

/-- External RAM at power-on has the contents given, half-bytes on MBC2. -/
theorem Cartridge.get_initialRam (power : PowerOn) (kind : Kind) {n i : Nat} (h : i < n) :
    Store.get (initialRam power kind n) i = if kind = .mbc2 then power.extRam i &&& 0x0F else power.extRam i := by
  unfold initialRam
  rw [Store.get_fillRun, if_pos (by omega)]

theorem Cartridge.wf_initialRam (power : PowerOn) (kind : Kind) (n : Nat) :
    Memory.wf (initialRam power kind n) = true := Store.wf_fillRun rfl _ _ _

theorem Cartridge.below_initialRam (power : PowerOn) (kind : Kind) (n : Nat) :
    Store.below n (initialRam power kind n) = true := by
  unfold Store.below
  rw [List.all_eq_true]
  intro c hc
  rcases Store.mem_fillRun hc with h | h
  · simpa using h.2.1
  · simp at h

theorem Cartridge.halfBytes_initialRam (power : PowerOn) (n : Nat) :
    (initialRam power .mbc2 n).all (fun e => decide (e.2.toNat < 16)) = true := by
  rw [List.all_eq_true]
  intro c hc
  rcases Store.mem_fillRun hc with h | h
  · rw [h.2.2, if_pos rfl, BitVec.toNat_and]
    have : (power.extRam c.1).toNat &&& (0x0F : Byte).toNat ≤ 15 := Nat.and_le_right
    simp only [decide_eq_true_eq]
    omega
  · simp at h

end Sys2Proof.Machine
end

