-- ==== Sys2Proof/Laws/Flags.lean ====
section
/-! SUPPORT. What the flag computations of Flags.lean give, on numbers. -/

namespace Sys2Proof.Machine

/-- A byte made from a number is 0 when the number is a multiple of 256. -/
theorem ofNat_eq_zero (n : Nat) : (BitVec.ofNat 8 n = 0) ↔ n % 256 = 0 := by
  rw [← BitVec.toNat_inj, BitVec.toNat_ofNat]
  rfl

/-- The subtractions (rules R213, R214, R218). -/
theorem subFlags_eq (a s : Byte) (c : Bool) :
    subFlags a s c =
      (BitVec.ofNat 8 (a.toNat + 512 - s.toNat - bitValue c),
        { z := decide ((a.toNat + 512 - s.toNat - bitValue c) % 256 = 0), n := true
          h := decide (a.toNat % 16 < s.toNat % 16 + bitValue c), cy := decide (a.toNat < s.toNat + bitValue c) }) := by
  unfold subFlags lowNibble
  rw [Nat.sub_add_eq]
  dsimp only
  rw [decide_eq_decide.mpr (ofNat_eq_zero _)]

/-- INC (rules R219, R220). -/
theorem incFlags_eq (v : Byte) (f : Flags) :
    incFlags v f =
      (BitVec.ofNat 8 (v.toNat + 1),
        { z := decide ((v.toNat + 1) % 256 = 0), n := false, h := decide (v.toNat % 16 = 0x0F), cy := f.cy }) := by
  have e : v + 1 = BitVec.ofNat 8 (v.toNat + 1) := BitVec.eq_of_toNat_eq (by simp)
  unfold incFlags lowNibble
  rw [e, decide_eq_decide.mpr (ofNat_eq_zero _)]

/-- DEC (rules R221, R222). -/
theorem decFlags_eq (v : Byte) (f : Flags) :
    decFlags v f =
      (BitVec.ofNat 8 (v.toNat + 255),
        { z := decide ((v.toNat + 255) % 256 = 0), n := true, h := decide (v.toNat % 16 = 0), cy := f.cy }) := by
  have e : v - 1 = BitVec.ofNat 8 (v.toNat + 255) := BitVec.eq_of_toNat_eq (by simp; omega)
  unfold decFlags lowNibble
  rw [e, decide_eq_decide.mpr (ofNat_eq_zero _)]

/-- DAA (rule R223), on numbers. -/
theorem daaFlags_eq (a : Byte) (f : Flags) :
    daaFlags a f =
      let low := if f.h = true ∨ f.n = false ∧ a.toNat % 16 > 0x09 then 0x06 else 0
      let high := if f.cy = true ∨ f.n = false ∧ a.toNat > 0x99 then 0x60 else 0
      let r := if f.n then (a.toNat + 256 - (low + high)) % 256 else (a.toNat + (low + high)) % 256
      (BitVec.ofNat 8 r,
        { z := decide (r = 0), n := f.n, h := false, cy := f.cy || (!f.n && decide (a.toNat > 0x99)) }) := by
  obtain ⟨z, n, h, cy⟩ := f
  have key : ∀ (a : Byte) (n h cy : Bool), daaFlags a { z := false, n := n, h := h, cy := cy } =
      let low := if h = true ∨ n = false ∧ a.toNat % 16 > 0x09 then 0x06 else 0
      let high := if cy = true ∨ n = false ∧ a.toNat > 0x99 then 0x60 else 0
      let r := if n then (a.toNat + 256 - (low + high)) % 256 else (a.toNat + (low + high)) % 256
      (BitVec.ofNat 8 r,
        { z := decide (r = 0), n := n, h := false, cy := cy || (!n && decide (a.toNat > 0x99)) }) := by
    decide
  exact key a n h cy

/-- The rotates and shifts (rules R254 to R261), on numbers: the value written back and the bit shifted out. -/
theorem shiftBits_eq (op : RotOp) (v : Byte) (cy : Bool) :
    shiftBits op v cy =
      match op with
      | .rlc => (BitVec.ofNat 8 (2 * v.toNat + v.toNat / 128), decide (v.toNat / 128 = 1))
      | .rrc => (BitVec.ofNat 8 (v.toNat / 2 + 128 * (v.toNat % 2)), decide (v.toNat % 2 = 1))
      | .rl => (BitVec.ofNat 8 (2 * v.toNat + bitValue cy), decide (v.toNat / 128 = 1))
      | .rr => (BitVec.ofNat 8 (v.toNat / 2 + 128 * bitValue cy), decide (v.toNat % 2 = 1))
      | .sla => (BitVec.ofNat 8 (2 * v.toNat), decide (v.toNat / 128 = 1))
      | .sra => (BitVec.ofNat 8 (v.toNat / 2 + 128 * (v.toNat / 128)), decide (v.toNat % 2 = 1))
      | .swap => (BitVec.ofNat 8 (16 * (v.toNat % 16) + v.toNat / 16), decide (0 = 1))
      | .srl => (BitVec.ofNat 8 (v.toNat / 2), decide (v.toNat % 2 = 1)) := by
  cases op <;> revert v cy <;> decide

end Sys2Proof.Machine
end

