-- ==== Sys2Proof/Laws/Ppu.lean ====
section
/-! SUPPORT. What the operations of the PPU write, one lemma each (60_exceptions.md rules R371 to R380), and that every
one of them keeps `Ppu.Ok`. -/

namespace Sys2Proof.Machine.Ppu

/-! ### What each operation writes -/

@[simp] theorem enterMode_ppu (p : Ppu) (m : PpuMode) : (p.enterMode m).1 = { p with mode := m } := rfl

@[simp] theorem lycCompare_ppu (p : Ppu) :
    p.lycCompare.1 = { p with lycFlag := decide (p.ly = p.lyc.toNat) } := rfl

/-- A line is rendered into the framebuffer and nowhere else. -/
theorem renderLine_frame (p : Ppu) (mem : Memory) (y : Nat) :
    ∃ f, p.renderLine mem y = { p with framebuffer := f } := ⟨_, rfl⟩

/-- The start of a line writes the mode. -/
theorem lineStart_frame (p : Ppu) : ∃ mode, p.lineStart.1 = { p with mode := mode } := by
  unfold lineStart
  split
  · exact ⟨.vblank, rfl⟩
  · split
    · exact ⟨.oamScan, rfl⟩
    · exact ⟨p.mode, rfl⟩

/-- A write to LCDC writes LCDC and the position, mode and LYC flag. -/
theorem writeLcdc_frame (p : Ppu) (v : Byte) :
    ∃ ly dots mode flag, (p.writeLcdc v).1 =
      { p with lcdc := v, ly := ly, dots := dots, mode := mode, lycFlag := flag } := by
  unfold writeLcdc
  dsimp only
  split
  · exact ⟨0, 0, .hblank, p.lycFlag, rfl⟩
  · split
    · exact ⟨0, 0, .oamScan, _, rfl⟩
    · exact ⟨p.ly, p.dots, p.mode, p.lycFlag, rfl⟩

/-- A write to LYC writes LYC and the LYC flag. -/
theorem writeLyc_frame (p : Ppu) (v : Byte) :
    ∃ flag, (p.writeLyc v).1 = { p with lyc := v, lycFlag := flag } := by
  unfold writeLyc
  dsimp only
  split
  · exact ⟨_, rfl⟩
  · exact ⟨p.lycFlag, rfl⟩

/-- What one dot can do to the PPU with the LCD on (rule R371): one dot further in the line, with the event of that dot,
or the first dot of the next line. -/
theorem dot_cases (p : Ppu) (mem : Memory) (hon : p.lcdOn = true) (hd : p.dots < 456) :
    (p.dots + 1 = 456 ∧ (p.dot mem).1 =
        { p with
          dots := 0
          ly := (p.ly + 1) % 154
          lycFlag := decide ((p.ly + 1) % 154 = p.lyc.toNat)
          mode :=
            if (p.ly + 1) % 154 = 144 then .vblank
            else if (p.ly + 1) % 154 < 144 then .oamScan
            else p.mode }) ∨
      (p.dots + 1 < 456 ∧ p.ly < 144 ∧ p.dots + 1 = 80 ∧ (p.dot mem).1 = { p with dots := 80, mode := .draw }) ∨
      (p.dots + 1 < 456 ∧ p.ly < 144 ∧ p.dots + 1 = 252 ∧
        ∃ f, (p.dot mem).1 = { p with dots := 252, mode := .hblank, framebuffer := f } ∧
          f = Store.setRun p.framebuffer (160 * p.ly)
            ((List.range 160).map fun x =>
              ({ p with dots := 252 } : Ppu).pixel mem (({ p with dots := 252 } : Ppu).lineSprites mem p.ly) x p.ly)) ∨
      (p.dots + 1 < 456 ∧ ¬ (p.ly < 144 ∧ (p.dots + 1 = 80 ∨ p.dots + 1 = 252)) ∧
        (p.dot mem).1 = { p with dots := p.dots + 1 }) := by
  have hon' : p.lcdc.getLsbD 7 = true := hon
  by_cases h1 : p.dots + 1 = 456
  · refine .inl ⟨h1, ?_⟩
    have e : ({ p with dots := p.dots + 1 } : Ppu).lineEvent mem = ({ p with dots := p.dots + 1 }, 0) := by
      unfold lineEvent; simp [h1]
    unfold dot
    simp only [hon, Bool.not_true, Bool.false_eq_true, ↓reduceIte, e]
    unfold lineEnd
    simp only [h1, ↓reduceIte, lycCompare_ppu]
    unfold lineStart
    dsimp only
    split
    · rfl
    · split <;> rfl
  · have h2 : p.dots + 1 < 456 := by omega
    have fin : ∀ q : Ppu, q.dots ≠ 456 → q.lineEnd = (q, 0) := fun q hq => by unfold lineEnd; simp [hq]
    by_cases h3 : p.ly < 144
    · by_cases h4 : p.dots + 1 = 80
      · refine .inr (.inl ⟨h2, h3, h4, ?_⟩)
        unfold dot lineEvent
        simp only [hon, Bool.not_true, Bool.false_eq_true, ↓reduceIte, h3, h4]
        rw [fin _ (by show (80 : Nat) ≠ 456; decide)]
      · by_cases h5 : p.dots + 1 = 252
        · refine .inr (.inr (.inl ⟨h2, h3, h5, _, ?_, rfl⟩))
          unfold dot lineEvent
          simp only [hon, Bool.not_true, Bool.false_eq_true, ↓reduceIte, h3, h5,
            show ¬ (252 = 80) by decide, enterMode_ppu]
          rw [fin _ (by show (252 : Nat) ≠ 456; decide)]
          rfl
        · refine .inr (.inr (.inr ⟨h2, by omega, ?_⟩))
          unfold dot lineEvent
          simp only [hon, Bool.not_true, Bool.false_eq_true, ↓reduceIte, h3, h4, h5]
          rw [fin _ h1]
    · refine .inr (.inr (.inr ⟨h2, by omega, ?_⟩))
      unfold dot lineEvent
      simp only [hon, Bool.not_true, Bool.false_eq_true, ↓reduceIte, h3]
      rw [fin _ h1]

/-- With the LCD off a dot does nothing (rule R378). -/
theorem dot_off (p : Ppu) (mem : Memory) (hoff : p.lcdOn = false) : p.dot mem = (p, 0) := by
  unfold dot; simp [hoff]

/-- A dot leaves the registers that the CPU writes. -/
theorem dot_registers (p : Ppu) (mem : Memory) :
    ∃ dots ly flag mode f, (p.dot mem).1 =
      { p with dots := dots, ly := ly, lycFlag := flag, mode := mode, framebuffer := f } := by
  unfold dot
  split
  · exact ⟨p.dots, p.ly, p.lycFlag, p.mode, p.framebuffer, rfl⟩
  · have hev : ∀ q : Ppu, ∃ mode f, (q.lineEvent mem).1 = { q with mode := mode, framebuffer := f } := by
      intro q
      unfold lineEvent
      split
      · split
        · exact ⟨.draw, q.framebuffer, rfl⟩
        · split
          · exact ⟨_, _, rfl⟩
          · exact ⟨q.mode, q.framebuffer, rfl⟩
      · exact ⟨q.mode, q.framebuffer, rfl⟩
    have hend : ∀ q : Ppu, ∃ dots ly flag mode,
        q.lineEnd.1 = { q with dots := dots, ly := ly, lycFlag := flag, mode := mode } := by
      intro q
      unfold lineEnd
      split
      · dsimp only
        obtain ⟨mode, h⟩ := lineStart_frame ({ q with dots := 0, ly := (q.ly + 1) % 154 } : Ppu).lycCompare.1
        rw [h]
        exact ⟨0, _, _, mode, rfl⟩
      · exact ⟨q.dots, q.ly, q.lycFlag, q.mode, rfl⟩
    dsimp only
    obtain ⟨mode, f, h1⟩ := hev { p with dots := p.dots + 1 }
    obtain ⟨dots, ly, flag, mode', h2⟩ := hend (({ p with dots := p.dots + 1 } : Ppu).lineEvent mem).1
    rw [h2, h1]
    exact ⟨dots, ly, flag, mode', f, rfl⟩

/-! ### The invariant -/

theorem modeAt_of_lt {ly dots : Nat} (h : ly < 144) :
    modeAt ly dots = if dots < 80 then .oamScan else if dots < 252 then .draw else .hblank := by
  unfold modeAt; simp [show ¬ 144 ≤ ly by omega]

theorem ok_dot {p : Ppu} (h : p.Ok) (mem : Memory) : (p.dot mem).1.Ok := by
  cases hon : p.lcdOn with
  | false => rw [dot_off p mem hon]; exact h
  | true =>
    have hl := h.line
    have hd := h.dot
    obtain ⟨hm, hf⟩ := h.on hon
    rcases dot_cases p mem hon hd with ⟨-, e⟩ | ⟨h1, h2, h3, e⟩ | ⟨h1, h2, h3, f, e, rfl⟩ | ⟨h1, h2, e⟩
    · rw [e]
      refine ⟨Nat.mod_lt _ (by decide), by show 0 < 456; decide, fun _ => ⟨?_, rfl⟩, fun h0 => ?_, h.frame, h.pixels⟩
      · dsimp only
        split
        · rename_i h144; rw [h144]; rfl
        · split
          · rename_i hlt; rw [modeAt_of_lt hlt]; rfl
          · rename_i hne hge
            rw [hm]
            have : 144 ≤ (p.ly + 1) % 154 := by omega
            have h3 : 144 ≤ p.ly := by omega
            unfold modeAt
            simp [this, h3]
      · exact absurd (hon.symm.trans h0) (by decide)
    · rw [e]
      refine ⟨hl, by show 80 < 456; decide, fun _ => ⟨?_, hf⟩, fun h0 => absurd (hon.symm.trans h0) (by decide), h.frame,
        h.pixels⟩
      rw [modeAt_of_lt h2]; rfl
    · rw [e]
      refine ⟨hl, by show 252 < 456; decide, fun _ => ⟨?_, hf⟩, fun h0 => absurd (hon.symm.trans h0) (by decide),
        Store.wf_setRun h.frame _ _, Store.below_setRun h.pixels (by simp; omega)⟩
      rw [modeAt_of_lt h2]; rfl
    · rw [e]
      refine ⟨hl, h1, fun _ => ⟨?_, hf⟩, fun h0 => absurd (hon.symm.trans h0) (by decide), h.frame, h.pixels⟩
      dsimp only
      rw [hm]
      unfold modeAt
      split
      · rfl
      · rename_i hge
        split_ifs <;> first | rfl | omega

theorem ok_writeLcdc {p : Ppu} (h : p.Ok) (v : Byte) : (p.writeLcdc v).1.Ok := by
  have hl := h.line
  have hd := h.dot
  unfold writeLcdc
  dsimp only
  split
  · rename_i hc
    simp only [Bool.and_eq_true, Bool.not_eq_true'] at hc
    refine ⟨by show 0 < 154; decide, by show 0 < 456; decide, fun h1 => ?_, fun _ => ⟨rfl, rfl, rfl⟩, h.frame, h.pixels⟩
    exact absurd (hc.2.symm.trans h1) (by decide)
  · split
    · rename_i hc
      simp only [Bool.and_eq_true, Bool.not_eq_true'] at hc
      refine ⟨by show 0 < 154; decide, by show 0 < 456; decide, fun _ => ⟨rfl, rfl⟩, fun h1 => ?_, h.frame, h.pixels⟩
      exact absurd (hc.2.symm.trans h1) (by decide)
    · rename_i h1 h2
      have same : ({ p with lcdc := v } : Ppu).lcdOn = p.lcdOn := by
        cases hp : p.lcdOn <;> simp_all
      exact ⟨hl, hd, fun hon => h.on (same ▸ hon), fun hoff => h.off (same ▸ hoff), h.frame, h.pixels⟩

theorem ok_writeLyc {p : Ppu} (h : p.Ok) (v : Byte) : (p.writeLyc v).1.Ok := by
  unfold writeLyc
  dsimp only
  split
  · rename_i hon
    exact ⟨h.line, h.dot, fun _ => ⟨(h.on hon).1, rfl⟩, fun hoff => h.off hoff, h.frame, h.pixels⟩
  · rename_i hoff
    exact ⟨h.line, h.dot, fun hon => absurd hon hoff, fun hoff => h.off hoff, h.frame, h.pixels⟩

/-! ### Sprites and shades -/

/-- A shade as a number: two bits of the palette. -/
theorem shade_toNat (b : Byte) (c : Nat) : (shade b c).toNat = b.toNat / 4 ^ c % 4 := by
  simp [shade, BitVec.extractLsb'_toNat, Nat.shiftRight_eq_div_pow, Nat.pow_mul]

theorem mem_insertByX {o q : Sprite} {l : List Sprite} : q ∈ insertByX o l ↔ q = o ∨ q ∈ l := by
  induction l with
  | nil => simp [insertByX]
  | cons a l ih =>
    simp only [insertByX]
    split
    · simp
    · simp only [List.mem_cons, ih]; tauto

theorem mem_foldl_insertByX {l acc : List Sprite} {q : Sprite} :
    q ∈ l.foldl (fun acc o => insertByX o acc) acc ↔ q ∈ l ∨ q ∈ acc := by
  induction l generalizing acc with
  | nil => simp
  | cons a l ih => simp only [List.foldl_cons, ih, mem_insertByX, List.mem_cons]; tauto

/-- Every sprite that is tried on a line is on it. -/
theorem spriteOnLine_of_mem {p : Ppu} {mem : Memory} {y : Nat} {o : Sprite} (h : o ∈ p.lineSprites mem y) :
    p.spriteOnLine y o = true := by
  unfold lineSprites at h
  split at h
  · simp at h
  · rw [mem_foldl_insertByX] at h
    exact (List.mem_filter.mp (List.mem_of_mem_take (h.resolve_right (List.not_mem_nil)))).2

end Sys2Proof.Machine.Ppu
end

