-- ==== Sys2Proof/Laws/Timer.lean ====
section
/-! SUPPORT. What a timer tick does (60_exceptions.md rules R361 to R364), and that the timer's operations keep
`Timer.Ok`. -/

namespace Sys2Proof.Machine.Timer

@[simp] theorem countReload_div (t : Timer) : t.countReload.div = t.div := by unfold countReload; split_ifs <;> rfl
@[simp] theorem countReload_tac (t : Timer) : t.countReload.tac = t.tac := by unfold countReload; split_ifs <;> rfl
@[simp] theorem countReload_tma (t : Timer) : t.countReload.tma = t.tma := by unfold countReload; split_ifs <;> rfl
@[simp] theorem countReload_reload (t : Timer) : t.countReload.reload = t.reload - 1 := by
  unfold countReload
  split
  · omega
  · split
    · show 0 = t.reload - 1; omega
    · rfl

theorem countReload_tima (t : Timer) : t.countReload.tima = if t.reload = 1 then t.tma else t.tima := by
  unfold countReload
  by_cases h0 : t.reload = 0
  · simp [h0]
  · by_cases h1 : t.reload = 1 <;> simp [h0, h1]

@[simp] theorem stepTima_div (t : Timer) : t.stepTima.div = t.div := by unfold stepTima; split <;> rfl
@[simp] theorem stepTima_tac (t : Timer) : t.stepTima.tac = t.tac := by unfold stepTima; split <;> rfl
@[simp] theorem stepTima_tma (t : Timer) : t.stepTima.tma = t.tma := by unfold stepTima; split <;> rfl

@[simp] theorem countDiv_div (t : Timer) : t.countDiv.div = t.div + 1 := by
  unfold countDiv; dsimp only; split <;> simp
@[simp] theorem countDiv_tac (t : Timer) : t.countDiv.tac = t.tac := by
  unfold countDiv; dsimp only; split <;> simp
@[simp] theorem countDiv_tma (t : Timer) : t.countDiv.tma = t.tma := by
  unfold countDiv; dsimp only; split <;> simp

/-- Every tick counts `div` (rule R361). -/
@[simp] theorem tick_div (t : Timer) : t.tick.1.div = t.div + 1 := by simp [tick]
@[simp] theorem tick_tac (t : Timer) : t.tick.1.tac = t.tac := by simp [tick]
@[simp] theorem tick_tma (t : Timer) : t.tick.1.tma = t.tma := by simp [tick]

theorem period_dvd (t : Timer) : 16 ∣ t.period := by
  unfold period; split <;> decide

/-- Where `div` is no multiple of 16 after the tick, TIMA does not step. -/
theorem countDiv_of_not_multiple (t : Timer) (h : (t.div + 1).toNat % 16 ≠ 0) :
    t.countDiv = { t with div := t.div + 1 } := by
  unfold countDiv
  dsimp only
  split
  · rename_i hc
    simp only [Bool.and_eq_true, decide_eq_true_eq] at hc
    obtain ⟨k, hk⟩ := period_dvd t
    have hp : ({ t with div := t.div + 1 } : Timer).period = t.period := rfl
    rw [hp, hk] at hc
    have := Nat.mod_mul_right_mod (t.div + 1).toNat 16 k
    rw [hc.2] at this
    exact absurd this.symm h
  · rfl

theorem ok_tick {t : Timer} (h : t.Ok) : t.tick.1.Ok := by
  have hb := h.bound
  have hd : (t.div + 1).toNat % 16 = (t.div.toNat + 1) % 16 := by
    rw [BitVec.toNat_add, show (1 : BitVec 16).toNat = 1 from rfl]
    omega
  show t.countReload.countDiv.Ok
  by_cases h0 : 0 < t.reload
  · obtain ⟨hz, hw⟩ := h.waiting h0
    rw [countDiv_of_not_multiple _ (by simp only [countReload_div]; omega)]
    refine ⟨by simp; omega, fun h1 => ⟨?_, ?_⟩⟩
    · simp only [countReload_reload] at h1
      simp only [countReload_tima]
      rw [if_neg (by omega)]
      exact hz
    · simp only [countReload_div, countReload_reload, hd]
      omega
  · have hr : t.reload = 0 := by omega
    have e : t.countReload = t := by unfold countReload; simp [hr]
    rw [e]
    unfold countDiv
    dsimp only
    split
    · rename_i hc
      unfold stepTima
      split
      · simp only [Bool.and_eq_true, decide_eq_true_eq] at hc
        obtain ⟨k, hk⟩ := period_dvd t
        have hp : ({ t with div := t.div + 1 } : Timer).period = t.period := rfl
        rw [hp, hk] at hc
        have := Nat.mod_mul_right_mod (t.div + 1).toNat 16 k
        rw [hc.2] at this
        exact ⟨le_refl _, fun _ => ⟨rfl, by show (t.div + 1).toNat % 16 + 4 ≤ 4; omega⟩⟩
      · exact ⟨hb, fun h1 => absurd h1 (by show ¬ 0 < t.reload; omega)⟩
    · exact ⟨hb, fun h1 => absurd h1 (by show ¬ 0 < t.reload; omega)⟩

theorem ok_writeTima (t : Timer) (v : Byte) : (t.writeTima v).Ok :=
  ⟨by show 0 ≤ 4; decide, fun h => absurd h (by show ¬ 0 < 0; decide)⟩

theorem ok_writeDiv {t : Timer} (h : t.Ok) : t.writeDiv.Ok :=
  ⟨h.bound, fun h1 => ⟨(h.waiting h1).1, by have := h.bound; show 0 % 16 + t.reload ≤ 4; omega⟩⟩

end Sys2Proof.Machine.Timer
end

