-- ==== Sys2Proof/Laws/Write.lean ====
section
/-! SUPPORT. A bus write, once: it keeps the invariant and the cartridge's identity, and it changes what an address reads
only where `touches` says so (20_memory.md rules R71 to R101). -/

namespace Sys2Proof.Machine

/-- The low byte of the address of a register that has one address (rule R33). -/
def IoReg.low : IoReg → Option Nat
  | .div => some 0x04
  | .tima => some 0x05
  | .tma => some 0x06
  | .tac => some 0x07
  | .ifr => some 0x0F
  | .lcdc => some 0x40
  | .stat => some 0x41
  | .scy => some 0x42
  | .scx => some 0x43
  | .ly => some 0x44
  | .lyc => some 0x45
  | .dma => some 0x46
  | .bgp => some 0x47
  | .obp0 => some 0x48
  | .obp1 => some 0x49
  | .wy => some 0x4A
  | .wx => some 0x4B
  | .external => none
  | .inert => none
  | .unrouted => none

theorem ioReg_low (a : Addr) (n : Nat) (h : (ioReg a).low = some n) : a.toNat % 0x100 = n := by
  unfold ioReg at h
  split at h <;> first
    | (simp only [IoReg.low, Option.some.injEq] at h; omega)
    | (simp [IoReg.low] at h; done)
    | (split at h <;> simp [IoReg.low] at h)

/-- An I/O address with a register is known from its register. -/
theorem io_addr {a : Addr} {n : Nat} (hr : region a = .io) (h : (ioReg a).low = some n) :
    a = BitVec.ofNat 16 (0xFF00 + n) := by
  have h1 := region_eq_io.mp hr
  have h2 := ioReg_low a n h
  apply BitVec.eq_of_toNat_eq
  rw [BitVec.toNat_ofNat]
  omega

theorem io_addr_inj {a b : Addr} {n : Nat} (ha : region a = .io) (hb : region b = .io) (h1 : (ioReg a).low = some n)
    (h2 : (ioReg b).low = some n) : a = b := (io_addr ha h1).trans (io_addr hb h2).symm

namespace State

/-! ### Which reads a write can change -/

/-- A write to the cartridge changes what the ROM and the window show. -/
theorem read_with_cart (s : State) (c : Cartridge) (b : Addr) (h1 : region b = .rom → c.readRom b = s.cart.readRom b)
    (h2 : region b ≠ .extRam) : ({ s with cart := c } : State).read b = s.read b := by
  show readWith _ _ b = readWith _ _ b
  unfold readWith
  split <;> first | rfl | (rename_i h; exact absurd h h2) | (rename_i h; exact h1 h)

/-- A read of an address with no I/O register does not look at the timer, IF, or the PPU registers but LCDC[7] and the
mode. -/
theorem read_of_not_io (s : State) (t : Timer) (p : Ppu) (f : BitVec 5) (b : Addr) (hb : region b ≠ .io)
    (h : region b = .vram ∨ region b = .oam → p.lcdOn = s.ppu.lcdOn ∧ p.mode = s.ppu.mode) :
    ({ s with timer := t, ppu := p, irq.ifr := f } : State).read b = s.read b := by
  show readWith _ _ b = readWith _ _ b
  unfold readWith
  split <;> first
    | rfl
    | (rename_i hr; exact absurd hr hb)
    | (rename_i hr; simp only [vramClosed, oamClosed, (h (by simp [hr])).1, (h (by simp [hr])).2] <;> rfl)

/-- The same for a new value of OAM. -/
theorem read_with_mem (s : State) (m : Memory) (b : Addr)
    (h : isMemory b = true → Store.get m (memKey b) = Store.get s.mem (memKey b)) :
    ({ s with mem := m } : State).read b = s.read b := by
  show readWith _ _ b = readWith _ _ b
  unfold readWith
  split <;> first
    | rfl
    | (rename_i hr; simp only [h (isMemory_iff.mpr (by simp [hr]))] <;> rfl)

/-- A write to an I/O register changes only the reads that `ioTouches` names. -/
theorem read_writeIo {s : State} {a b : Addr} (v : Byte) (ha : region a = .io) (h : ioTouches a b = false) :
    (s.writeIo a v).read b = s.read b := by
  by_cases hb : region b = .io
  · -- an I/O address reads its register
    have hread : ∀ t : State, t.read b = t.readIo b := by
      intro t; show readWith _ _ b = _; unfold readWith; rw [hb]
    rw [hread, hread]
    have hne : ∀ n, (ioReg a).low = some n → a ≠ b → (ioReg b).low ≠ some n :=
      fun n h1 h2 h3 => h2 (io_addr_inj ha hb h1 h3)
    obtain ⟨md, hd⟩ := writeDma_frame s v
    obtain ⟨l1, l2, l3, l4, hl⟩ := Ppu.writeLcdc_frame s.ppu v
    obtain ⟨c1, hc⟩ := Ppu.writeLyc_frame s.ppu v
    have nlow : ∀ n, b ≠ BitVec.ofNat 16 (0xFF00 + n) → (ioReg b).low ≠ some n := fun n h1 h2 => h1 (io_addr hb h2)
    unfold ioTouches at h
    unfold writeIo
    cases hr : ioReg a <;> simp only [hr] at h ⊢
    case dma =>
      simp only [Bool.or_eq_false_iff, decide_eq_false_iff_not] at h
      have := hne 0x46 (by rw [hr]; rfl) (fun e => h.1 e.symm)
      rw [hd]
      unfold readIo
      split <;> first | rfl | (rename_i e; rw [e] at this; exact absurd rfl this)
    case lcdc =>
      simp only [Bool.or_eq_false_iff, decide_eq_false_iff_not] at h
      have n1 := nlow 0x40 h.1.1.1.1.1
      have n2 := nlow 0x41 h.1.1.1.1.2
      have n3 := nlow 0x44 h.1.1.1.2
      have n4 := nlow 0x0F h.1.1.2
      unfold setPpu
      rw [hl]
      unfold readIo
      split <;> first
        | rfl
        | (rename_i e; rw [e] at n1; exact absurd rfl n1)
        | (rename_i e; rw [e] at n2; exact absurd rfl n2)
        | (rename_i e; rw [e] at n3; exact absurd rfl n3)
        | (rename_i e; rw [e] at n4; exact absurd rfl n4)
    case lyc =>
      simp only [Bool.or_eq_false_iff, decide_eq_false_iff_not] at h
      have n1 := nlow 0x45 h.1.1
      have n2 := nlow 0x41 h.1.2
      have n4 := nlow 0x0F h.2
      unfold setPpu
      rw [hc]
      unfold readIo
      split <;> first
        | rfl
        | (rename_i e; rw [e] at n1; exact absurd rfl n1)
        | (rename_i e; rw [e] at n2; exact absurd rfl n2)
        | (rename_i e; rw [e] at n4; exact absurd rfl n4)
    all_goals first
      | rfl
      | (have := hne _ (by rw [hr]; rfl) (fun e => of_decide_eq_false h e.symm)
         unfold readIo
         split <;> first | rfl | (rename_i e; rw [e] at this; exact absurd rfl this))
  · obtain ⟨md, hd⟩ := writeDma_frame s v
    obtain ⟨l1, l2, l3, l4, hl⟩ := Ppu.writeLcdc_frame s.ppu v
    obtain ⟨c1, hc⟩ := Ppu.writeLyc_frame s.ppu v
    have same : ∀ (t : Timer) (p : Ppu) (f : BitVec 5), p.lcdOn = s.ppu.lcdOn → p.mode = s.ppu.mode →
        ({ s with timer := t, ppu := p, irq.ifr := f } : State).read b = s.read b :=
      fun t p f h1 h2 => read_of_not_io s t p f b hb fun _ => ⟨h1, h2⟩
    unfold ioTouches at h
    unfold writeIo
    cases hr : ioReg a <;> simp only [hr] at h ⊢
    case dma =>
      simp only [Bool.or_eq_false_iff, decide_eq_false_iff_not] at h
      have hget := writeDma_get s v
      rw [hd] at hget ⊢
      have e := read_with_mem ({ s with ppu.dma := v } : State) md b fun hm => by
        have hk := hget (memKey b)
        have hno : ¬ (0xFE00 ≤ memKey b ∧ memKey b < 0xFEA0) := by
          intro hk'
          apply h.2
          by_cases he : region b = .echo
          · have := region_eq_echo.mp he
            rw [memKey_echo he] at hk'
            omega
          · rw [memKey_of_ne_echo he] at hk'
            exact region_eq_oam.mpr hk'
        rw [if_neg hno] at hk
        exact hk
      exact e.trans (same s.timer { s.ppu with dma := v } s.irq.ifr rfl rfl)
    case lcdc =>
      simp only [Bool.or_eq_false_iff, decide_eq_false_iff_not] at h
      exact read_of_not_io s s.timer _ _ b hb fun hm => by
        rcases hm with hm | hm
        · exact absurd hm h.1.2
        · exact absurd hm h.2
    case lyc =>
      exact same s.timer _ _ (by rw [hc]; rfl) (by rw [hc])
    all_goals first
      | rfl
      | exact same _ s.ppu s.irq.ifr rfl rfl
      | exact same s.timer s.ppu _ rfl rfl
      | exact same s.timer _ s.irq.ifr rfl rfl

/-- A bus write changes only the reads that `touches` names. -/
theorem read_write {s : State} {a b : Addr} (v : Byte) (h : touches a b = false) :
    (s.write a v).read b = s.read b := by
  have mem : ∀ (m : isMemory b = false ∨ memKey a ≠ memKey b), (s.setMem a v).read b = s.read b := fun m =>
    readWith_setMem _ v (by rcases m with m | m <;> simp [m])
  unfold touches at h
  unfold write
  cases hr : region a <;> simp only [hr] at h ⊢ <;>
    (try simp only [Bool.or_eq_false_iff, Bool.and_eq_false_iff, decide_eq_false_iff_not] at h)
  case rom =>
    exact read_with_cart s _ b (fun e => absurd e h.1) h.2
  case extRam =>
    exact read_with_cart s _ b (fun _ => Cartridge.readRom_writeRam _ _ _ _) h
  case vram => split <;> first | rfl | exact mem h
  case oam => split <;> first | rfl | exact mem h
  case wram => exact mem h
  case echo => exact mem h
  case hram => exact mem h
  case io => exact read_writeIo v hr h
  case ie =>
    show readWith _ _ b = readWith _ _ b
    unfold readWith
    split <;> first | rfl | (rename_i e; exact absurd (region_eq_ie.mp e) h)

end State

end Sys2Proof.Machine
end

