-- ==== Sys2Proof/Laws/Inv.lean ====
section
/-! SUPPORT. The shared operations keep the invariant of Safety.lean: bus writes, the OAM copy, pushes, and the advance
of the peripherals. -/

namespace Sys2Proof.Machine.State

/-- The registers matter to the invariant by the HALT bug alone. -/
theorem Inv.of_parts {s t : State} (h : s.Inv) (hm : t.mem = s.mem) (hp : t.ppu = s.ppu) (ht : t.timer = s.timer)
    (hc : t.cart = s.cart) (hq : t.params = s.params) (hb : t.cpu.haltBug = s.cpu.haltBug) : t.Inv :=
  ⟨hm ▸ h.mem, hm ▸ h.owned, hp ▸ h.ppu, ht ▸ h.timer, hc ▸ h.cart, by rw [hq, hb]; exact h.haltBug⟩

theorem Inv.setMem {s : State} (h : s.Inv) {a : Addr} (v : Byte) (ha : isMemory a = true) : (s.setMem a v).Inv :=
  ⟨Memory.wf_set h.mem _ _, Store.all_set h.owned ha, h.ppu, h.timer, h.cart, h.haltBug⟩

theorem Inv.dmaByte {s : State} (h : s.Inv) (v : Byte) {i : Nat} (hi : i < 160) : (dmaByte v s i).Inv :=
  ⟨Memory.wf_set h.mem _ _, Store.all_set h.owned (ownedKey_oam hi), h.ppu, h.timer, h.cart, h.haltBug⟩

theorem Inv.dmaFold {s : State} (h : s.Inv) (v : Byte) (l : List Nat) (hl : ∀ i ∈ l, i < 160) :
    (l.foldl (State.dmaByte v) s).Inv := by
  induction l generalizing s with
  | nil => exact h
  | cons i l ih => exact ih (h.dmaByte v (hl i (by simp))) fun j hj => hl j (by simp [hj])

/-- The PPU's registers that carry no invariant. -/
theorem ppuOk_of_parts {p q : Ppu} (h : p.Ok) (h1 : q.lcdc = p.lcdc) (h2 : q.ly = p.ly)
    (h3 : q.dots = p.dots) (h4 : q.mode = p.mode) (h5 : q.lyc = p.lyc) (h6 : q.lycFlag = p.lycFlag)
    (h7 : q.framebuffer = p.framebuffer) : q.Ok := by
  have e : q.lcdOn = p.lcdOn := by unfold Ppu.lcdOn; rw [h1]
  refine ⟨h2 ▸ h.line, h3 ▸ h.dot, fun hon => ?_, fun hoff => ?_, h7 ▸ h.frame, h7 ▸ h.pixels⟩
  · rw [h2, h3, h4, h5, h6]; exact h.on (e ▸ hon)
  · rw [h2, h3, h4]; exact h.off (e ▸ hoff)

theorem Inv.setPpu {s : State} (h : s.Inv) {r : Ppu × BitVec 5} (hr : r.1.Ok) : (s.setPpu r).Inv :=
  ⟨h.mem, h.owned, hr, h.timer, h.cart, h.haltBug⟩

theorem Inv.with_ppu {s : State} (h : s.Inv) {p : Ppu} (hp : p.Ok) : ({ s with ppu := p } : State).Inv :=
  ⟨h.mem, h.owned, hp, h.timer, h.cart, h.haltBug⟩

theorem Inv.with_timer {s : State} (h : s.Inv) {t : Timer} (ht : t.Ok) : ({ s with timer := t } : State).Inv :=
  ⟨h.mem, h.owned, h.ppu, ht, h.cart, h.haltBug⟩

theorem Inv.writeIo {s : State} (h : s.Inv) (a : Addr) (v : Byte) : (s.writeIo a v).Inv := by
  have ppu : ∀ p : Ppu, p.lcdc = s.ppu.lcdc → p.ly = s.ppu.ly → p.dots = s.ppu.dots → p.mode = s.ppu.mode →
      p.lyc = s.ppu.lyc → p.lycFlag = s.ppu.lycFlag → p.framebuffer = s.ppu.framebuffer →
      ({ s with ppu := p } : State).Inv :=
    fun p h1 h2 h3 h4 h5 h6 h7 => h.with_ppu (ppuOk_of_parts h.ppu h1 h2 h3 h4 h5 h6 h7)
  unfold State.writeIo
  cases ioReg a
  case dma => exact (ppu { s.ppu with dma := v } rfl rfl rfl rfl rfl rfl rfl).dmaFold v _ fun i hi => List.mem_range.mp hi
  case div => exact h.with_timer (Timer.ok_writeDiv h.timer)
  case tima => exact h.with_timer (Timer.ok_writeTima _ _)
  case tma => exact h.with_timer ⟨h.timer.bound, h.timer.waiting⟩
  case tac => exact h.with_timer ⟨h.timer.bound, h.timer.waiting⟩
  case ifr => exact ⟨h.mem, h.owned, h.ppu, h.timer, h.cart, h.haltBug⟩
  case lcdc => exact h.setPpu (Ppu.ok_writeLcdc h.ppu v)
  case lyc => exact h.setPpu (Ppu.ok_writeLyc h.ppu v)
  all_goals first
    | exact h
    | exact ppu _ rfl rfl rfl rfl rfl rfl rfl

/-- A bus write keeps the invariant. -/
theorem Inv.write {s : State} (h : s.Inv) (a : Addr) (v : Byte) : (s.write a v).Inv := by
  unfold State.write
  cases hr : region a
  case rom => exact ⟨h.mem, h.owned, h.ppu, h.timer, Cartridge.ok_writeRegister h.cart a v, h.haltBug⟩
  case extRam => exact ⟨h.mem, h.owned, h.ppu, h.timer, Cartridge.ok_writeRam h.cart a v, h.haltBug⟩
  case vram =>
    dsimp only
    split
    · exact h
    · exact h.setMem v (isMemory_iff.mpr (by simp [hr]))
  case oam =>
    dsimp only
    split
    · exact h
    · exact h.setMem v (isMemory_iff.mpr (by simp [hr]))
  case wram => exact h.setMem v (isMemory_iff.mpr (by simp [hr]))
  case echo => exact h.setMem v (isMemory_iff.mpr (by simp [hr]))
  case hram => exact h.setMem v (isMemory_iff.mpr (by simp [hr]))
  case unusable => exact h
  case io => exact h.writeIo a v
  case ie => exact ⟨h.mem, h.owned, h.ppu, h.timer, h.cart, h.haltBug⟩

theorem Inv.writeWord {s : State} (h : s.Inv) (a v : Addr) : (s.writeWord a v).Inv := (h.write _ _).write _ _

theorem Inv.setSp {s : State} (h : s.Inv) (v : Addr) : (s.setSp v).Inv := h.of_parts rfl rfl rfl rfl rfl rfl

theorem Inv.push16 {s : State} (h : s.Inv) (v : Addr) : (s.push16 v).Inv := (h.setSp _).writeWord _ _

/-- A new register file that keeps the HALT bug keeps the invariant, whatever the cycle count. -/
theorem Inv.with_cpu {s : State} (h : s.Inv) {c : Cpu} (hc : c.haltBug = s.cpu.haltBug) (n : Nat) :
    ({ s with cpu := c, cycles := n } : State).Inv := h.of_parts rfl rfl rfl rfl rfl hc

theorem Inv.writeR8 {s : State} (h : s.Inv) (r : R8) (v : Byte) : (s.writeR8 r v).Inv := by
  cases r
  case indHL => exact h.write _ _
  all_goals exact h.of_parts rfl rfl rfl rfl rfl rfl

@[simp] theorem writeR8_params (s : State) (r : R8) (v : Byte) : (s.writeR8 r v).params = s.params := by
  cases r
  case indHL => exact write_params _ _ _
  all_goals rfl

/-! ### The peripherals -/

theorem Inv.timerTick {s : State} (h : s.Inv) : s.timerTick.Inv :=
  ⟨h.mem, h.owned, h.ppu, Timer.ok_tick h.timer, h.cart, h.haltBug⟩

theorem Inv.timerAdvance {s : State} (h : s.Inv) (n : Nat) : (State.timerAdvance n s).Inv := by
  induction n generalizing s with
  | zero => exact h
  | succ n ih => exact ih h.timerTick

theorem Inv.ppuDot {s : State} (h : s.Inv) : s.ppuDot.Inv := h.setPpu (Ppu.ok_dot h.ppu s.mem)

theorem Inv.ppuAdvance {s : State} (h : s.Inv) (n : Nat) : (State.ppuAdvance n s).Inv := by
  induction n generalizing s with
  | zero => exact h
  | succ n ih => exact ih h.ppuDot

/-- The end of a step keeps the invariant. -/
theorem Inv.advance {s : State} (h : s.Inv) : s.advance.Inv := by
  have := (h.timerAdvance s.cycles).ppuAdvance s.cycles
  exact ⟨this.mem, this.owned, this.ppu, this.timer, Cartridge.ok_tickRtc this.cart _, this.haltBug⟩

/-- What the advance of the timer does (rule R361): as many ticks, and the Timer request of each tick that reloads. -/
theorem timerAdvance_timer (n : Nat) (s : State) : (timerAdvance n s).timer = Timer.ticks n s.timer := by
  induction n generalizing s with
  | zero => rfl
  | succ n ih => exact ih s.timerTick

theorem timerAdvance_ifr (n : Nat) (s : State) (i : Nat) :
    (timerAdvance n s).irq.ifr.getLsbD i = true ↔
      s.irq.ifr.getLsbD i = true ∨ ∃ k < n, (Timer.ticks k s.timer).tick.2.getLsbD i = true := by
  induction n generalizing s with
  | zero => simp [timerAdvance]
  | succ n ih =>
    unfold timerAdvance
    rw [ih, Nat.exists_lt_succ_left]
    simp only [timerTick, BitVec.getLsbD_or, Bool.or_eq_true, or_assoc, Timer.ticks]

/-- What the advance of the PPU does (rule R371): as many dots, and the requests of each. -/
theorem ppuAdvance_ppu (n : Nat) (s : State) : (ppuAdvance n s).ppu = Ppu.dotTimes n s.mem s.ppu := by
  induction n generalizing s with
  | zero => rfl
  | succ n ih => exact ih s.ppuDot

theorem ppuAdvance_ifr (n : Nat) (s : State) (i : Nat) :
    (ppuAdvance n s).irq.ifr.getLsbD i = true ↔
      s.irq.ifr.getLsbD i = true ∨ ∃ k < n, ((Ppu.dotTimes k s.mem s.ppu).dot s.mem).2.getLsbD i = true := by
  induction n generalizing s with
  | zero => simp [ppuAdvance]
  | succ n ih =>
    unfold ppuAdvance
    rw [ih, Nat.exists_lt_succ_left]
    simp only [ppuDot, setPpu, BitVec.getLsbD_or, Bool.or_eq_true, or_assoc, Ppu.dotTimes]

/-- The advance of the peripherals leaves the registers, IE, the memories and the model's inputs. -/
theorem timerAdvance_frame (n : Nat) (s : State) :
    ∃ t f, timerAdvance n s = { s with timer := t, irq.ifr := f } := by
  induction n generalizing s with
  | zero => exact ⟨s.timer, s.irq.ifr, rfl⟩
  | succ n ih =>
    obtain ⟨t, f, h⟩ := ih s.timerTick
    exact ⟨t, f, h⟩

theorem ppuAdvance_frame (n : Nat) (s : State) :
    ∃ p f, ppuAdvance n s = { s with ppu := p, irq.ifr := f } := by
  induction n generalizing s with
  | zero => exact ⟨s.ppu, s.irq.ifr, rfl⟩
  | succ n ih =>
    obtain ⟨p, f, h⟩ := ih s.ppuDot
    exact ⟨p, f, h⟩

theorem advance_frame (s : State) :
    ∃ t p f m, s.advance =
      { s with timer := t, ppu := p, irq.ifr := f, cart.mbc := m, draws := s.draws + 1 } ∧
        Cartridge.kindOf m = Cartridge.kindOf s.cart.mbc := by
  obtain ⟨t, f, h1⟩ := timerAdvance_frame s.cycles s
  obtain ⟨p, f', h2⟩ := ppuAdvance_frame s.cycles (timerAdvance s.cycles s)
  obtain ⟨m, h3, h4⟩ := Cartridge.tickRtc_frame s.cart s.draws
  refine ⟨t, p, f', m, ?_, h4⟩
  unfold advance
  rw [h2, h1]
  dsimp only
  rw [h3]

@[simp] theorem advance_cpu (s : State) : s.advance.cpu = s.cpu := by
  obtain ⟨t, p, f, m, h, -⟩ := advance_frame s; rw [h]
@[simp] theorem advance_mem (s : State) : s.advance.mem = s.mem := by
  obtain ⟨t, p, f, m, h, -⟩ := advance_frame s; rw [h]
@[simp] theorem advance_ie (s : State) : s.advance.irq.ie = s.irq.ie := by
  obtain ⟨t, p, f, m, h, -⟩ := advance_frame s; rw [h]
@[simp] theorem advance_params (s : State) : s.advance.params = s.params := by
  obtain ⟨t, p, f, m, h, -⟩ := advance_frame s; rw [h]
@[simp] theorem advance_extIrq (s : State) : s.advance.extIrq = s.extIrq := by
  obtain ⟨t, p, f, m, h, -⟩ := advance_frame s; rw [h]
@[simp] theorem advance_cycles (s : State) : s.advance.cycles = s.cycles := by
  obtain ⟨t, p, f, m, h, -⟩ := advance_frame s; rw [h]
@[simp] theorem advance_draws (s : State) : s.advance.draws = s.draws + 1 := by
  obtain ⟨t, p, f, m, h, -⟩ := advance_frame s; rw [h]

end Sys2Proof.Machine.State
end

