-- ==== Sys2Proof/Laws/Shape.lean ====
section
/-! SUPPORT. What one instruction can do, once: it writes the addresses that `Instr.stores` names, in that order, gives
the registers new values and counts its cycles; only the control instructions touch the control bits. Every fact about
all instructions follows from `exec_shape`. -/

namespace Sys2Proof.Machine

/-- The control bits of the CPU (rules R27 to R32). -/
def Cpu.control (c : Cpu) : Bool × ImeDelay × Bool × Bool × Bool × Bool :=
  (c.ime, c.imeEnableAfter, c.halt, c.stop, c.haltBug, c.lock)

/-- A list of bus writes, first to last. -/
def State.writes (s : State) (l : List (Addr × Byte)) : State := l.foldl (fun t w => t.write w.1 w.2) s

/-- What an instruction that stores to `stores` does to a state; `controls` says whether it may touch a control bit. -/
def Shape (stores : List Addr) (controls : Bool) (s t : State) : Prop :=
  ∃ w c n, t = { s.writes w with cpu := c, cycles := n } ∧ w.map Prod.fst = stores ∧
    (4 ≤ n ∧ n ≤ 24 ∧ n % 4 = 0) ∧ (controls = false → c.control = s.cpu.control) ∧
    (c.haltBug = s.cpu.haltBug ∨ s.params.haltBug = true)

/-- The addresses that a write of `r8[i]` stores to. -/
def R8StoresTo (s : State) : R8 → List Addr
  | .indHL => [s.hl]
  | _ => []

namespace State

theorem writes_cpu (s : State) (l : List (Addr × Byte)) : (s.writes l).cpu = s.cpu := by
  induction l generalizing s with
  | nil => rfl
  | cons w l ih => exact (ih _).trans (write_cpu _ _ _)

theorem writes_params (s : State) (l : List (Addr × Byte)) : (s.writes l).params = s.params := by
  induction l generalizing s with
  | nil => rfl
  | cons w l ih => exact (ih _).trans (write_params _ _ _)

theorem Inv.writes {s : State} (h : s.Inv) (l : List (Addr × Byte)) : (s.writes l).Inv := by
  induction l generalizing s with
  | nil => exact h
  | cons w l ih => exact ih (h.write w.1 w.2)

end State

open State

/-- An instruction that stores nothing. -/
theorem shape_pure {s t : State} (c : Cpu) (n : Nat) (h : t = { s with cpu := c, cycles := n })
    (hn : 4 ≤ n ∧ n ≤ 24 ∧ n % 4 = 0) (hc : c.control = s.cpu.control) : Shape [] false s t :=
  ⟨[], c, n, h, rfl, hn, fun _ => hc, .inl (congrArg (fun x => x.2.2.2.2.1) hc)⟩

/-- An instruction that stores. -/
theorem shape_store {s t : State} (w : List (Addr × Byte)) (c : Cpu) (n : Nat)
    (h : t = { s.writes w with cpu := c, cycles := n }) (hn : 4 ≤ n ∧ n ≤ 24 ∧ n % 4 = 0)
    (hc : c.control = s.cpu.control) : Shape (w.map Prod.fst) false s t :=
  ⟨w, c, n, h, rfl, hn, fun _ => hc, .inl (congrArg (fun x => x.2.2.2.2.1) hc)⟩

/-- `r8[i] <- v`, new flags, a cycle count. -/
theorem shape_writeR8 (s : State) (r : R8) (v : Byte) (f : Flags) {n : Nat} (hn : 4 ≤ n ∧ n ≤ 24 ∧ n % 4 = 0) :
    Shape (R8StoresTo s r) false s (((s.writeR8 r v).setFlags f).spend n) := by
  cases r
  case indHL =>
    refine shape_store [(s.hl, v)] { s.cpu with flags := f } n ?_ hn rfl
    show _ = ({ (s.write s.hl v) with cpu := { s.cpu with flags := f }, cycles := n } : State)
    rw [← write_cpu s s.hl v]
    rfl
  all_goals exact shape_pure _ n rfl hn rfl

/-- The same with the flags left alone. -/
theorem shape_writeR8' (s : State) (r : R8) (v : Byte) {n : Nat} (hn : 4 ≤ n ∧ n ≤ 24 ∧ n % 4 = 0) :
    Shape (R8StoresTo s r) false s ((s.writeR8 r v).spend n) := by
  have h := shape_writeR8 s r v s.cpu.flags hn
  have e : (s.writeR8 r v).setFlags s.cpu.flags = s.writeR8 r v := by
    cases r
    case indHL =>
      show ({ (s.write s.hl v) with cpu := { (s.write s.hl v).cpu with flags := s.cpu.flags } } : State) = s.write s.hl v
      rw [← write_cpu s s.hl v]
    all_goals rfl
  rwa [e] at h

theorem cost_ok (r : R8) {m n : Nat} (hm : 4 ≤ m ∧ m ≤ 24 ∧ m % 4 = 0) (hn : 4 ≤ n ∧ n ≤ 24 ∧ n % 4 = 0) :
    4 ≤ r.cost m n ∧ r.cost m n ≤ 24 ∧ r.cost m n % 4 = 0 := by
  cases r <;> assumption

theorem shape_ldR8 (s : State) (dst r : R8) : Shape (R8StoresTo s dst) false s (s.ldR8 dst r) :=
  shape_writeR8' s dst _ (cost_ok dst (cost_ok r (by decide) (by decide)) (by decide))

theorem shape_ldR8Imm (s : State) (dst : R8) (n : Byte) : Shape (R8StoresTo s dst) false s (s.ldR8Imm dst n) :=
  shape_writeR8' s dst _ (cost_ok dst (by decide) (by decide))

theorem shape_loadPointer (s : State) (p : R16Mem) : Shape [] false s (s.loadPointer p) := by
  cases p <;> exact shape_pure _ 8 rfl (by decide) rfl

theorem shape_storePointer (s : State) (p : R16Mem) : Shape [s.memPointer p] false s (s.storePointer p) := by
  have key : ∀ a : Addr, ∀ h l : Byte,
      ({ (s.write a s.cpu.a) with cpu := { (s.write a s.cpu.a).cpu with h := h, l := l }, cycles := 8 } : State) =
        { (s.write a s.cpu.a) with cpu := { s.cpu with h := h, l := l }, cycles := 8 } := fun a h l => by rw [write_cpu]
  refine shape_store [(s.memPointer p, s.cpu.a)] ((s.bumpPointer p).cpu) 8 ?_ (by decide) (by cases p <;> rfl)
  cases p
  case bc => exact congrArg (fun c => ({ (s.write s.bc s.cpu.a) with cpu := c, cycles := 8 } : State)) (write_cpu _ _ _)
  case de => exact congrArg (fun c => ({ (s.write s.de s.cpu.a) with cpu := c, cycles := 8 } : State)) (write_cpu _ _ _)
  case hlInc =>
    have e : (s.write s.hl s.cpu.a).hl = s.hl := by unfold hl; rw [write_cpu]
    show ({ (s.write s.hl s.cpu.a).setHl ((s.write s.hl s.cpu.a).hl + 1) with cycles := 8 } : State) = _
    rw [e]
    exact key s.hl _ _
  case hlDec =>
    have e : (s.write s.hl s.cpu.a).hl = s.hl := by unfold hl; rw [write_cpu]
    show ({ (s.write s.hl s.cpu.a).setHl ((s.write s.hl s.cpu.a).hl - 1) with cycles := 8 } : State) = _
    rw [e]
    exact key s.hl _ _

theorem shape_loadA (s : State) (a : Addr) (n : Nat) (hn : 4 ≤ n ∧ n ≤ 24 ∧ n % 4 = 0) :
    Shape [] false s (s.loadA a n) := shape_pure { s.cpu with a := s.read a } n rfl hn rfl

theorem shape_storeA (s : State) (a : Addr) (n : Nat) (hn : 4 ≤ n ∧ n ≤ 24 ∧ n % 4 = 0) :
    Shape [a] false s (s.storeA a n) :=
  shape_store [(a, s.cpu.a)] s.cpu n
    (congrArg (fun c => ({ (s.write a s.cpu.a) with cpu := c, cycles := n } : State)) (write_cpu s a s.cpu.a)) hn rfl

theorem shape_writeWord (s : State) (a v : Addr) {n : Nat} (hn : 4 ≤ n ∧ n ≤ 24 ∧ n % 4 = 0) :
    Shape [a, a + 1] false s ((s.writeWord a v).spend n) :=
  shape_store [(a, loByte v), (a + 1, hiByte v)] s.cpu n
    (congrArg (fun c => ({ (s.writeWord a v) with cpu := c, cycles := n } : State)) (writeWord_cpu s a v)) hn rfl

theorem shape_ldPair (s : State) (r : R16) (v : Addr) : Shape [] false s (s.ldPair r v) := by
  cases r <;> exact shape_pure _ 12 rfl (by decide) rfl

theorem shape_push (s : State) (v : Addr) (c : Cpu → Cpu) {n : Nat} (hn : 4 ≤ n ∧ n ≤ 24 ∧ n % 4 = 0)
    (hc : (c { s.cpu with sp := s.cpu.sp - 2 }).control = s.cpu.control) :
    Shape s.stackSlot false s { (s.push16 v) with cpu := c (s.push16 v).cpu, cycles := n } := by
  unfold State.stackSlot
  refine shape_store [(s.cpu.sp - 2, loByte v), (s.cpu.sp - 1, hiByte v)] _ n ?_ hn hc
  rw [push16_cpu, push16_eq]
  rfl

theorem shape_pushPair (s : State) (r : R16Stk) : Shape s.stackSlot false s (s.pushPair r) :=
  shape_push s (s.readStk r) id (by decide) rfl

theorem shape_popPair (s : State) (r : R16Stk) : Shape [] false s (s.popPair r) := by
  cases r <;> exact shape_pure _ 12 rfl (by decide) rfl

theorem shape_aluR8 (s : State) (op : AluOp) (r : R8) : Shape [] false s (s.aluR8 op r) :=
  shape_pure _ _ rfl (cost_ok r (by decide) (by decide)) rfl

theorem shape_aluImm (s : State) (op : AluOp) (n : Byte) : Shape [] false s (s.aluImm op n) :=
  shape_pure _ _ rfl (by decide) rfl

theorem shape_incR8 (s : State) (r : R8) : Shape (R8StoresTo s r) false s (s.incR8 r) :=
  shape_writeR8 s r _ _ (cost_ok r (by decide) (by decide))

theorem shape_decR8 (s : State) (r : R8) : Shape (R8StoresTo s r) false s (s.decR8 r) :=
  shape_writeR8 s r _ _ (cost_ok r (by decide) (by decide))

theorem shape_addHl (s : State) (r : R16) : Shape [] false s (s.addHl r) := shape_pure _ _ rfl (by decide) rfl

theorem shape_incPair (s : State) (r : R16) : Shape [] false s (s.incPair r) := by
  cases r <;> exact shape_pure _ 8 rfl (by decide) rfl

theorem shape_decPair (s : State) (r : R16) : Shape [] false s (s.decPair r) := by
  cases r <;> exact shape_pure _ 8 rfl (by decide) rfl

theorem shape_rotateA (s : State) (op : RotOp) : Shape [] false s (s.rotateA op) := shape_pure _ _ rfl (by decide) rfl

theorem shape_rotateR8 (s : State) (op : RotOp) (r : R8) : Shape (R8StoresTo s r) false s (s.rotateR8 op r) :=
  shape_writeR8 s r _ _ (cost_ok r (by decide) (by decide))

theorem shape_bitR8 (s : State) (b : Fin 8) (r : R8) : Shape [] false s (s.bitR8 b r) :=
  shape_pure _ _ rfl (cost_ok r (by decide) (by decide)) rfl

theorem shape_resR8 (s : State) (b : Fin 8) (r : R8) : Shape (R8StoresTo s r) false s (s.resR8 b r) :=
  shape_writeR8' s r _ (cost_ok r (by decide) (by decide))

theorem shape_setR8Bit (s : State) (b : Fin 8) (r : R8) : Shape (R8StoresTo s r) false s (s.setR8Bit b r) :=
  shape_writeR8' s r _ (cost_ok r (by decide) (by decide))

theorem R8StoresTo_index (s : State) {i : Nat} (hi : i < 8) :
    R8StoresTo s (r8Index i) = if i = 6 then [s.hl] else [] := by
  rcases i with _ | _ | _ | _ | _ | _ | _ | _ | i <;> rfl

theorem shape_cbOperation (s : State) (cb : Byte) :
    Shape (if fieldZ cb = 6 ∧ fieldX cb ≠ 1 then [s.hl] else []) false s (s.cbOperation cb) := by
  have hz : fieldZ cb < 8 := Nat.mod_lt _ (by decide)
  have e := R8StoresTo_index s hz
  unfold State.cbOperation
  rcases hx : fieldX cb with _ | _ | _ | n <;> simp only
  · rw [if_congr (and_iff_left (by decide)) rfl rfl, ← e]; exact shape_rotateR8 _ _ _
  · rw [if_neg (by simp)]; exact shape_bitR8 _ _ _
  · rw [if_congr (and_iff_left (by decide)) rfl rfl, ← e]; exact shape_resR8 _ _ _
  · rw [if_congr (and_iff_left (by omega)) rfl rfl, ← e]; exact shape_setR8Bit _ _ _

theorem shape_jumpIf (s : State) (b : Bool) (a : Addr) (m n : Nat) (hm : 4 ≤ m ∧ m ≤ 24 ∧ m % 4 = 0)
    (hn : 4 ≤ n ∧ n ≤ 24 ∧ n % 4 = 0) : Shape [] false s (s.jumpIf b a m n) := by
  cases b
  · exact shape_pure _ _ rfl hn rfl
  · exact shape_pure _ _ rfl hm rfl

theorem shape_call (s : State) (a : Addr) (n : Nat) (hn : 4 ≤ n ∧ n ≤ 24 ∧ n % 4 = 0) :
    Shape s.stackSlot false s (s.call a n) :=
  shape_push s s.cpu.pc (fun c => { c with pc := a }) hn rfl

theorem shape_callIf (s : State) (b : Bool) (a : Addr) :
    Shape (if b then s.stackSlot else []) false s (s.callIf b a) := by
  cases b
  · exact shape_pure _ _ rfl (by decide) rfl
  · exact shape_call s a 24 (by decide)

theorem shape_ret (s : State) (n : Nat) (hn : 4 ≤ n ∧ n ≤ 24 ∧ n % 4 = 0) : Shape [] false s (s.ret n) :=
  shape_pure _ _ rfl hn rfl

theorem shape_retIf (s : State) (b : Bool) : Shape [] false s (s.retIf b) := by
  cases b
  · exact shape_pure _ _ rfl (by decide) rfl
  · exact shape_ret s 20 (by decide)

/-- An instruction that touches control bits and stores nothing. -/
theorem shape_control {s t : State} (c : Cpu) (n : Nat) (h : t = { s with cpu := c, cycles := n })
    (hn : 4 ≤ n ∧ n ≤ 24 ∧ n % 4 = 0) (hb : c.haltBug = s.cpu.haltBug ∨ s.params.haltBug = true) :
    Shape [] true s t := ⟨[], c, n, h, rfl, hn, fun h => absurd h (by decide), hb⟩

theorem shape_illegal (s : State) : Shape [] true s (s.raiseIllegalOpcode.spend 4) :=
  shape_control { s.cpu with lock := true } 4 rfl (by decide) (.inl rfl)

theorem shape_halt (s : State) : Shape [] true s (s.enterHalt.spend 4) := by
  unfold State.enterHalt
  split
  · split
    · exact shape_control { s.cpu with haltBug := true } 4 rfl (by decide) (.inr ‹_›)
    · exact shape_control s.cpu 4 rfl (by decide) (.inl rfl)
  · exact shape_control { s.cpu with halt := true } 4 rfl (by decide) (.inl rfl)

/-- The instructions that may touch a control bit: DI, EI, HALT, STOP, RETI and the undefined opcodes. -/
def controls : Instr → Bool
  | .di => true
  | .ei => true
  | .halt => true
  | .stop _ => true
  | .reti => true
  | .illegal_D3 => true
  | .illegal_DB => true
  | .illegal_DD => true
  | .illegal_E3 => true
  | .illegal_E4 => true
  | .illegal_EB => true
  | .illegal_EC => true
  | .illegal_ED => true
  | .illegal_F4 => true
  | .illegal_FC => true
  | .illegal_FD => true
  | _ => false

/-- What one instruction does. -/
theorem exec_shape (i : Instr) (s : State) : ∃ t, exec i s = .next t ∧ Shape (i.stores s) (controls i) s t := by
  cases i
  case nop => exact ⟨_, rfl, shape_pure s.cpu 4 rfl (by decide) rfl⟩
  case ld_BC_n16 n => exact ⟨_, rfl, shape_ldPair s .bc n⟩
  case ld_iBC_A => exact ⟨_, rfl, shape_storePointer s .bc⟩
  case inc_BC => exact ⟨_, rfl, shape_incPair s .bc⟩
  case inc_B => exact ⟨_, rfl, shape_incR8 s .b⟩
  case dec_B => exact ⟨_, rfl, shape_decR8 s .b⟩
  case ld_B_n8 n => exact ⟨_, rfl, shape_ldR8Imm s .b n⟩
  case rlca => exact ⟨_, rfl, shape_rotateA s .rlc⟩
  case ld_ia16_SP a => exact ⟨_, rfl, shape_writeWord s a s.cpu.sp (by decide)⟩
  case add_HL_BC => exact ⟨_, rfl, shape_addHl s .bc⟩
  case ld_A_iBC => exact ⟨_, rfl, shape_loadPointer s .bc⟩
  case dec_BC => exact ⟨_, rfl, shape_decPair s .bc⟩
  case inc_C => exact ⟨_, rfl, shape_incR8 s .c⟩
  case dec_C => exact ⟨_, rfl, shape_decR8 s .c⟩
  case ld_C_n8 n => exact ⟨_, rfl, shape_ldR8Imm s .c n⟩
  case rrca => exact ⟨_, rfl, shape_rotateA s .rrc⟩
  case stop _pad => exact ⟨_, rfl, shape_control { s.cpu with stop := true } 4 rfl (by decide) (.inl rfl)⟩
  case ld_DE_n16 n => exact ⟨_, rfl, shape_ldPair s .de n⟩
  case ld_iDE_A => exact ⟨_, rfl, shape_storePointer s .de⟩
  case inc_DE => exact ⟨_, rfl, shape_incPair s .de⟩
  case inc_D => exact ⟨_, rfl, shape_incR8 s .d⟩
  case dec_D => exact ⟨_, rfl, shape_decR8 s .d⟩
  case ld_D_n8 n => exact ⟨_, rfl, shape_ldR8Imm s .d n⟩
  case rla => exact ⟨_, rfl, shape_rotateA s .rl⟩
  case jr_e8 e => exact ⟨_, rfl, shape_jumpIf s true (s.relative e) 12 12 (by decide) (by decide)⟩
  case add_HL_DE => exact ⟨_, rfl, shape_addHl s .de⟩
  case ld_A_iDE => exact ⟨_, rfl, shape_loadPointer s .de⟩
  case dec_DE => exact ⟨_, rfl, shape_decPair s .de⟩
  case inc_E => exact ⟨_, rfl, shape_incR8 s .e⟩
  case dec_E => exact ⟨_, rfl, shape_decR8 s .e⟩
  case ld_E_n8 n => exact ⟨_, rfl, shape_ldR8Imm s .e n⟩
  case rra => exact ⟨_, rfl, shape_rotateA s .rr⟩
  case jr_NZ_e8 e => exact ⟨_, rfl, shape_jumpIf s (s.cond .nz) (s.relative e) 12 8 (by decide) (by decide)⟩
  case ld_HL_n16 n => exact ⟨_, rfl, shape_ldPair s .hl n⟩
  case ld_iHLinc_A => exact ⟨_, rfl, shape_storePointer s .hlInc⟩
  case inc_HL => exact ⟨_, rfl, shape_incPair s .hl⟩
  case inc_H => exact ⟨_, rfl, shape_incR8 s .h⟩
  case dec_H => exact ⟨_, rfl, shape_decR8 s .h⟩
  case ld_H_n8 n => exact ⟨_, rfl, shape_ldR8Imm s .h n⟩
  case daa => exact ⟨_, rfl, shape_pure _ 4 rfl (by decide) rfl⟩
  case jr_Z_e8 e => exact ⟨_, rfl, shape_jumpIf s (s.cond .z) (s.relative e) 12 8 (by decide) (by decide)⟩
  case add_HL_HL => exact ⟨_, rfl, shape_addHl s .hl⟩
  case ld_A_iHLinc => exact ⟨_, rfl, shape_loadPointer s .hlInc⟩
  case dec_HL => exact ⟨_, rfl, shape_decPair s .hl⟩
  case inc_L => exact ⟨_, rfl, shape_incR8 s .l⟩
  case dec_L => exact ⟨_, rfl, shape_decR8 s .l⟩
  case ld_L_n8 n => exact ⟨_, rfl, shape_ldR8Imm s .l n⟩
  case cpl => exact ⟨_, rfl, shape_pure _ 4 rfl (by decide) rfl⟩
  case jr_NC_e8 e => exact ⟨_, rfl, shape_jumpIf s (s.cond .nc) (s.relative e) 12 8 (by decide) (by decide)⟩
  case ld_SP_n16 n => exact ⟨_, rfl, shape_ldPair s .sp n⟩
  case ld_iHLdec_A => exact ⟨_, rfl, shape_storePointer s .hlDec⟩
  case inc_SP => exact ⟨_, rfl, shape_incPair s .sp⟩
  case inc_iHL => exact ⟨_, rfl, shape_incR8 s .indHL⟩
  case dec_iHL => exact ⟨_, rfl, shape_decR8 s .indHL⟩
  case ld_iHL_n8 n => exact ⟨_, rfl, shape_ldR8Imm s .indHL n⟩
  case scf => exact ⟨_, rfl, shape_pure _ 4 rfl (by decide) rfl⟩
  case jr_C_e8 e => exact ⟨_, rfl, shape_jumpIf s (s.cond .c) (s.relative e) 12 8 (by decide) (by decide)⟩
  case add_HL_SP => exact ⟨_, rfl, shape_addHl s .sp⟩
  case ld_A_iHLdec => exact ⟨_, rfl, shape_loadPointer s .hlDec⟩
  case dec_SP => exact ⟨_, rfl, shape_decPair s .sp⟩
  case inc_A => exact ⟨_, rfl, shape_incR8 s .a⟩
  case dec_A => exact ⟨_, rfl, shape_decR8 s .a⟩
  case ld_A_n8 n => exact ⟨_, rfl, shape_ldR8Imm s .a n⟩
  case ccf => exact ⟨_, rfl, shape_pure _ 4 rfl (by decide) rfl⟩
  case ld_B_B => exact ⟨_, rfl, shape_ldR8 s .b .b⟩
  case ld_B_C => exact ⟨_, rfl, shape_ldR8 s .b .c⟩
  case ld_B_D => exact ⟨_, rfl, shape_ldR8 s .b .d⟩
  case ld_B_E => exact ⟨_, rfl, shape_ldR8 s .b .e⟩
  case ld_B_H => exact ⟨_, rfl, shape_ldR8 s .b .h⟩
  case ld_B_L => exact ⟨_, rfl, shape_ldR8 s .b .l⟩
  case ld_B_iHL => exact ⟨_, rfl, shape_ldR8 s .b .indHL⟩
  case ld_B_A => exact ⟨_, rfl, shape_ldR8 s .b .a⟩
  case ld_C_B => exact ⟨_, rfl, shape_ldR8 s .c .b⟩
  case ld_C_C => exact ⟨_, rfl, shape_ldR8 s .c .c⟩
  case ld_C_D => exact ⟨_, rfl, shape_ldR8 s .c .d⟩
  case ld_C_E => exact ⟨_, rfl, shape_ldR8 s .c .e⟩
  case ld_C_H => exact ⟨_, rfl, shape_ldR8 s .c .h⟩
  case ld_C_L => exact ⟨_, rfl, shape_ldR8 s .c .l⟩
  case ld_C_iHL => exact ⟨_, rfl, shape_ldR8 s .c .indHL⟩
  case ld_C_A => exact ⟨_, rfl, shape_ldR8 s .c .a⟩
  case ld_D_B => exact ⟨_, rfl, shape_ldR8 s .d .b⟩
  case ld_D_C => exact ⟨_, rfl, shape_ldR8 s .d .c⟩
  case ld_D_D => exact ⟨_, rfl, shape_ldR8 s .d .d⟩
  case ld_D_E => exact ⟨_, rfl, shape_ldR8 s .d .e⟩
  case ld_D_H => exact ⟨_, rfl, shape_ldR8 s .d .h⟩
  case ld_D_L => exact ⟨_, rfl, shape_ldR8 s .d .l⟩
  case ld_D_iHL => exact ⟨_, rfl, shape_ldR8 s .d .indHL⟩
  case ld_D_A => exact ⟨_, rfl, shape_ldR8 s .d .a⟩
  case ld_E_B => exact ⟨_, rfl, shape_ldR8 s .e .b⟩
  case ld_E_C => exact ⟨_, rfl, shape_ldR8 s .e .c⟩
  case ld_E_D => exact ⟨_, rfl, shape_ldR8 s .e .d⟩
  case ld_E_E => exact ⟨_, rfl, shape_ldR8 s .e .e⟩
  case ld_E_H => exact ⟨_, rfl, shape_ldR8 s .e .h⟩
  case ld_E_L => exact ⟨_, rfl, shape_ldR8 s .e .l⟩
  case ld_E_iHL => exact ⟨_, rfl, shape_ldR8 s .e .indHL⟩
  case ld_E_A => exact ⟨_, rfl, shape_ldR8 s .e .a⟩
  case ld_H_B => exact ⟨_, rfl, shape_ldR8 s .h .b⟩
  case ld_H_C => exact ⟨_, rfl, shape_ldR8 s .h .c⟩
  case ld_H_D => exact ⟨_, rfl, shape_ldR8 s .h .d⟩
  case ld_H_E => exact ⟨_, rfl, shape_ldR8 s .h .e⟩
  case ld_H_H => exact ⟨_, rfl, shape_ldR8 s .h .h⟩
  case ld_H_L => exact ⟨_, rfl, shape_ldR8 s .h .l⟩
  case ld_H_iHL => exact ⟨_, rfl, shape_ldR8 s .h .indHL⟩
  case ld_H_A => exact ⟨_, rfl, shape_ldR8 s .h .a⟩
  case ld_L_B => exact ⟨_, rfl, shape_ldR8 s .l .b⟩
  case ld_L_C => exact ⟨_, rfl, shape_ldR8 s .l .c⟩
  case ld_L_D => exact ⟨_, rfl, shape_ldR8 s .l .d⟩
  case ld_L_E => exact ⟨_, rfl, shape_ldR8 s .l .e⟩
  case ld_L_H => exact ⟨_, rfl, shape_ldR8 s .l .h⟩
  case ld_L_L => exact ⟨_, rfl, shape_ldR8 s .l .l⟩
  case ld_L_iHL => exact ⟨_, rfl, shape_ldR8 s .l .indHL⟩
  case ld_L_A => exact ⟨_, rfl, shape_ldR8 s .l .a⟩
  case ld_iHL_B => exact ⟨_, rfl, shape_ldR8 s .indHL .b⟩
  case ld_iHL_C => exact ⟨_, rfl, shape_ldR8 s .indHL .c⟩
  case ld_iHL_D => exact ⟨_, rfl, shape_ldR8 s .indHL .d⟩
  case ld_iHL_E => exact ⟨_, rfl, shape_ldR8 s .indHL .e⟩
  case ld_iHL_H => exact ⟨_, rfl, shape_ldR8 s .indHL .h⟩
  case ld_iHL_L => exact ⟨_, rfl, shape_ldR8 s .indHL .l⟩
  case halt => exact ⟨_, rfl, shape_halt s⟩
  case ld_iHL_A => exact ⟨_, rfl, shape_ldR8 s .indHL .a⟩
  case ld_A_B => exact ⟨_, rfl, shape_ldR8 s .a .b⟩
  case ld_A_C => exact ⟨_, rfl, shape_ldR8 s .a .c⟩
  case ld_A_D => exact ⟨_, rfl, shape_ldR8 s .a .d⟩
  case ld_A_E => exact ⟨_, rfl, shape_ldR8 s .a .e⟩
  case ld_A_H => exact ⟨_, rfl, shape_ldR8 s .a .h⟩
  case ld_A_L => exact ⟨_, rfl, shape_ldR8 s .a .l⟩
  case ld_A_iHL => exact ⟨_, rfl, shape_ldR8 s .a .indHL⟩
  case ld_A_A => exact ⟨_, rfl, shape_ldR8 s .a .a⟩
  case add_A_B => exact ⟨_, rfl, shape_aluR8 s .add .b⟩
  case add_A_C => exact ⟨_, rfl, shape_aluR8 s .add .c⟩
  case add_A_D => exact ⟨_, rfl, shape_aluR8 s .add .d⟩
  case add_A_E => exact ⟨_, rfl, shape_aluR8 s .add .e⟩
  case add_A_H => exact ⟨_, rfl, shape_aluR8 s .add .h⟩
  case add_A_L => exact ⟨_, rfl, shape_aluR8 s .add .l⟩
  case add_A_iHL => exact ⟨_, rfl, shape_aluR8 s .add .indHL⟩
  case add_A_A => exact ⟨_, rfl, shape_aluR8 s .add .a⟩
  case adc_A_B => exact ⟨_, rfl, shape_aluR8 s .adc .b⟩
  case adc_A_C => exact ⟨_, rfl, shape_aluR8 s .adc .c⟩
  case adc_A_D => exact ⟨_, rfl, shape_aluR8 s .adc .d⟩
  case adc_A_E => exact ⟨_, rfl, shape_aluR8 s .adc .e⟩
  case adc_A_H => exact ⟨_, rfl, shape_aluR8 s .adc .h⟩
  case adc_A_L => exact ⟨_, rfl, shape_aluR8 s .adc .l⟩
  case adc_A_iHL => exact ⟨_, rfl, shape_aluR8 s .adc .indHL⟩
  case adc_A_A => exact ⟨_, rfl, shape_aluR8 s .adc .a⟩
  case sub_A_B => exact ⟨_, rfl, shape_aluR8 s .sub .b⟩
  case sub_A_C => exact ⟨_, rfl, shape_aluR8 s .sub .c⟩
  case sub_A_D => exact ⟨_, rfl, shape_aluR8 s .sub .d⟩
  case sub_A_E => exact ⟨_, rfl, shape_aluR8 s .sub .e⟩
  case sub_A_H => exact ⟨_, rfl, shape_aluR8 s .sub .h⟩
  case sub_A_L => exact ⟨_, rfl, shape_aluR8 s .sub .l⟩
  case sub_A_iHL => exact ⟨_, rfl, shape_aluR8 s .sub .indHL⟩
  case sub_A_A => exact ⟨_, rfl, shape_aluR8 s .sub .a⟩
  case sbc_A_B => exact ⟨_, rfl, shape_aluR8 s .sbc .b⟩
  case sbc_A_C => exact ⟨_, rfl, shape_aluR8 s .sbc .c⟩
  case sbc_A_D => exact ⟨_, rfl, shape_aluR8 s .sbc .d⟩
  case sbc_A_E => exact ⟨_, rfl, shape_aluR8 s .sbc .e⟩
  case sbc_A_H => exact ⟨_, rfl, shape_aluR8 s .sbc .h⟩
  case sbc_A_L => exact ⟨_, rfl, shape_aluR8 s .sbc .l⟩
  case sbc_A_iHL => exact ⟨_, rfl, shape_aluR8 s .sbc .indHL⟩
  case sbc_A_A => exact ⟨_, rfl, shape_aluR8 s .sbc .a⟩
  case and_A_B => exact ⟨_, rfl, shape_aluR8 s .and .b⟩
  case and_A_C => exact ⟨_, rfl, shape_aluR8 s .and .c⟩
  case and_A_D => exact ⟨_, rfl, shape_aluR8 s .and .d⟩
  case and_A_E => exact ⟨_, rfl, shape_aluR8 s .and .e⟩
  case and_A_H => exact ⟨_, rfl, shape_aluR8 s .and .h⟩
  case and_A_L => exact ⟨_, rfl, shape_aluR8 s .and .l⟩
  case and_A_iHL => exact ⟨_, rfl, shape_aluR8 s .and .indHL⟩
  case and_A_A => exact ⟨_, rfl, shape_aluR8 s .and .a⟩
  case xor_A_B => exact ⟨_, rfl, shape_aluR8 s .xor .b⟩
  case xor_A_C => exact ⟨_, rfl, shape_aluR8 s .xor .c⟩
  case xor_A_D => exact ⟨_, rfl, shape_aluR8 s .xor .d⟩
  case xor_A_E => exact ⟨_, rfl, shape_aluR8 s .xor .e⟩
  case xor_A_H => exact ⟨_, rfl, shape_aluR8 s .xor .h⟩
  case xor_A_L => exact ⟨_, rfl, shape_aluR8 s .xor .l⟩
  case xor_A_iHL => exact ⟨_, rfl, shape_aluR8 s .xor .indHL⟩
  case xor_A_A => exact ⟨_, rfl, shape_aluR8 s .xor .a⟩
  case or_A_B => exact ⟨_, rfl, shape_aluR8 s .or .b⟩
  case or_A_C => exact ⟨_, rfl, shape_aluR8 s .or .c⟩
  case or_A_D => exact ⟨_, rfl, shape_aluR8 s .or .d⟩
  case or_A_E => exact ⟨_, rfl, shape_aluR8 s .or .e⟩
  case or_A_H => exact ⟨_, rfl, shape_aluR8 s .or .h⟩
  case or_A_L => exact ⟨_, rfl, shape_aluR8 s .or .l⟩
  case or_A_iHL => exact ⟨_, rfl, shape_aluR8 s .or .indHL⟩
  case or_A_A => exact ⟨_, rfl, shape_aluR8 s .or .a⟩
  case cp_A_B => exact ⟨_, rfl, shape_aluR8 s .cp .b⟩
  case cp_A_C => exact ⟨_, rfl, shape_aluR8 s .cp .c⟩
  case cp_A_D => exact ⟨_, rfl, shape_aluR8 s .cp .d⟩
  case cp_A_E => exact ⟨_, rfl, shape_aluR8 s .cp .e⟩
  case cp_A_H => exact ⟨_, rfl, shape_aluR8 s .cp .h⟩
  case cp_A_L => exact ⟨_, rfl, shape_aluR8 s .cp .l⟩
  case cp_A_iHL => exact ⟨_, rfl, shape_aluR8 s .cp .indHL⟩
  case cp_A_A => exact ⟨_, rfl, shape_aluR8 s .cp .a⟩
  case ret_NZ => exact ⟨_, rfl, shape_retIf s (s.cond .nz)⟩
  case pop_BC => exact ⟨_, rfl, shape_popPair s .bc⟩
  case jp_NZ_a16 a => exact ⟨_, rfl, shape_jumpIf s (s.cond .nz) a 16 12 (by decide) (by decide)⟩
  case jp_a16 a => exact ⟨_, rfl, shape_jumpIf s true a 16 16 (by decide) (by decide)⟩
  case call_NZ_a16 a => exact ⟨_, rfl, shape_callIf s (s.cond .nz) a⟩
  case push_BC => exact ⟨_, rfl, shape_pushPair s .bc⟩
  case add_A_n8 n => exact ⟨_, rfl, shape_aluImm s .add n⟩
  case rst_00 => exact ⟨_, rfl, shape_call s 0x0000 16 (by decide)⟩
  case ret_Z => exact ⟨_, rfl, shape_retIf s (s.cond .z)⟩
  case ret => exact ⟨_, rfl, shape_ret s 16 (by decide)⟩
  case jp_Z_a16 a => exact ⟨_, rfl, shape_jumpIf s (s.cond .z) a 16 12 (by decide) (by decide)⟩
  case prefixCb cb => exact ⟨_, rfl, shape_cbOperation s cb⟩
  case call_Z_a16 a => exact ⟨_, rfl, shape_callIf s (s.cond .z) a⟩
  case call_a16 a => exact ⟨_, rfl, shape_call s a 24 (by decide)⟩
  case adc_A_n8 n => exact ⟨_, rfl, shape_aluImm s .adc n⟩
  case rst_08 => exact ⟨_, rfl, shape_call s 0x0008 16 (by decide)⟩
  case ret_NC => exact ⟨_, rfl, shape_retIf s (s.cond .nc)⟩
  case pop_DE => exact ⟨_, rfl, shape_popPair s .de⟩
  case jp_NC_a16 a => exact ⟨_, rfl, shape_jumpIf s (s.cond .nc) a 16 12 (by decide) (by decide)⟩
  case illegal_D3 => exact ⟨_, rfl, shape_illegal s⟩
  case call_NC_a16 a => exact ⟨_, rfl, shape_callIf s (s.cond .nc) a⟩
  case push_DE => exact ⟨_, rfl, shape_pushPair s .de⟩
  case sub_A_n8 n => exact ⟨_, rfl, shape_aluImm s .sub n⟩
  case rst_10 => exact ⟨_, rfl, shape_call s 0x0010 16 (by decide)⟩
  case ret_C => exact ⟨_, rfl, shape_retIf s (s.cond .c)⟩
  case reti => exact ⟨_, rfl, shape_control { s.pop16.2.cpu with pc := s.pop16.1, ime := true } 16 rfl (by decide) (.inl rfl)⟩
  case jp_C_a16 a => exact ⟨_, rfl, shape_jumpIf s (s.cond .c) a 16 12 (by decide) (by decide)⟩
  case illegal_DB => exact ⟨_, rfl, shape_illegal s⟩
  case call_C_a16 a => exact ⟨_, rfl, shape_callIf s (s.cond .c) a⟩
  case illegal_DD => exact ⟨_, rfl, shape_illegal s⟩
  case sbc_A_n8 n => exact ⟨_, rfl, shape_aluImm s .sbc n⟩
  case rst_18 => exact ⟨_, rfl, shape_call s 0x0018 16 (by decide)⟩
  case ldh_ia8_A n => exact ⟨_, rfl, shape_storeA s (highPage n) 12 (by decide)⟩
  case pop_HL => exact ⟨_, rfl, shape_popPair s .hl⟩
  case ldh_iC_A => exact ⟨_, rfl, shape_storeA s (highPage s.cpu.c) 8 (by decide)⟩
  case illegal_E3 => exact ⟨_, rfl, shape_illegal s⟩
  case illegal_E4 => exact ⟨_, rfl, shape_illegal s⟩
  case push_HL => exact ⟨_, rfl, shape_pushPair s .hl⟩
  case and_A_n8 n => exact ⟨_, rfl, shape_aluImm s .and n⟩
  case rst_20 => exact ⟨_, rfl, shape_call s 0x0020 16 (by decide)⟩
  case add_SP_e8 e => exact ⟨_, rfl, shape_pure _ 16 rfl (by decide) rfl⟩
  case jp_HL => exact ⟨_, rfl, shape_jumpIf s true s.hl 4 4 (by decide) (by decide)⟩
  case ld_ia16_A a => exact ⟨_, rfl, shape_storeA s a 16 (by decide)⟩
  case illegal_EB => exact ⟨_, rfl, shape_illegal s⟩
  case illegal_EC => exact ⟨_, rfl, shape_illegal s⟩
  case illegal_ED => exact ⟨_, rfl, shape_illegal s⟩
  case xor_A_n8 n => exact ⟨_, rfl, shape_aluImm s .xor n⟩
  case rst_28 => exact ⟨_, rfl, shape_call s 0x0028 16 (by decide)⟩
  case ldh_A_ia8 n => exact ⟨_, rfl, shape_loadA s (highPage n) 12 (by decide)⟩
  case pop_AF => exact ⟨_, rfl, shape_popPair s .af⟩
  case ldh_A_iC => exact ⟨_, rfl, shape_loadA s (highPage s.cpu.c) 8 (by decide)⟩
  case di => exact ⟨_, rfl, shape_control { s.cpu with ime := false, imeEnableAfter := .none } 4 rfl (by decide) (.inl rfl)⟩
  case illegal_F4 => exact ⟨_, rfl, shape_illegal s⟩
  case push_AF => exact ⟨_, rfl, shape_pushPair s .af⟩
  case or_A_n8 n => exact ⟨_, rfl, shape_aluImm s .or n⟩
  case rst_30 => exact ⟨_, rfl, shape_call s 0x0030 16 (by decide)⟩
  case ld_HL_SPe8 e => exact ⟨_, rfl, shape_pure _ 12 rfl (by decide) rfl⟩
  case ld_SP_HL => exact ⟨_, rfl, shape_pure _ 8 rfl (by decide) rfl⟩
  case ld_A_ia16 a => exact ⟨_, rfl, shape_loadA s a 16 (by decide)⟩
  case ei => exact ⟨_, rfl, shape_control { s.cpu with imeEnableAfter := .nextInstruction } 4 rfl (by decide) (.inl rfl)⟩
  case illegal_FC => exact ⟨_, rfl, shape_illegal s⟩
  case illegal_FD => exact ⟨_, rfl, shape_illegal s⟩
  case cp_A_n8 n => exact ⟨_, rfl, shape_aluImm s .cp n⟩
  case rst_38 => exact ⟨_, rfl, shape_call s 0x0038 16 (by decide)⟩
  case rlc_B => exact ⟨_, rfl, shape_rotateR8 s .rlc .b⟩
  case rlc_C => exact ⟨_, rfl, shape_rotateR8 s .rlc .c⟩
  case rlc_D => exact ⟨_, rfl, shape_rotateR8 s .rlc .d⟩
  case rlc_E => exact ⟨_, rfl, shape_rotateR8 s .rlc .e⟩
  case rlc_H => exact ⟨_, rfl, shape_rotateR8 s .rlc .h⟩
  case rlc_L => exact ⟨_, rfl, shape_rotateR8 s .rlc .l⟩
  case rlc_iHL => exact ⟨_, rfl, shape_rotateR8 s .rlc .indHL⟩
  case rlc_A => exact ⟨_, rfl, shape_rotateR8 s .rlc .a⟩
  case rrc_B => exact ⟨_, rfl, shape_rotateR8 s .rrc .b⟩
  case rrc_C => exact ⟨_, rfl, shape_rotateR8 s .rrc .c⟩
  case rrc_D => exact ⟨_, rfl, shape_rotateR8 s .rrc .d⟩
  case rrc_E => exact ⟨_, rfl, shape_rotateR8 s .rrc .e⟩
  case rrc_H => exact ⟨_, rfl, shape_rotateR8 s .rrc .h⟩
  case rrc_L => exact ⟨_, rfl, shape_rotateR8 s .rrc .l⟩
  case rrc_iHL => exact ⟨_, rfl, shape_rotateR8 s .rrc .indHL⟩
  case rrc_A => exact ⟨_, rfl, shape_rotateR8 s .rrc .a⟩
  case rl_B => exact ⟨_, rfl, shape_rotateR8 s .rl .b⟩
  case rl_C => exact ⟨_, rfl, shape_rotateR8 s .rl .c⟩
  case rl_D => exact ⟨_, rfl, shape_rotateR8 s .rl .d⟩
  case rl_E => exact ⟨_, rfl, shape_rotateR8 s .rl .e⟩
  case rl_H => exact ⟨_, rfl, shape_rotateR8 s .rl .h⟩
  case rl_L => exact ⟨_, rfl, shape_rotateR8 s .rl .l⟩
  case rl_iHL => exact ⟨_, rfl, shape_rotateR8 s .rl .indHL⟩
  case rl_A => exact ⟨_, rfl, shape_rotateR8 s .rl .a⟩
  case rr_B => exact ⟨_, rfl, shape_rotateR8 s .rr .b⟩
  case rr_C => exact ⟨_, rfl, shape_rotateR8 s .rr .c⟩
  case rr_D => exact ⟨_, rfl, shape_rotateR8 s .rr .d⟩
  case rr_E => exact ⟨_, rfl, shape_rotateR8 s .rr .e⟩
  case rr_H => exact ⟨_, rfl, shape_rotateR8 s .rr .h⟩
  case rr_L => exact ⟨_, rfl, shape_rotateR8 s .rr .l⟩
  case rr_iHL => exact ⟨_, rfl, shape_rotateR8 s .rr .indHL⟩
  case rr_A => exact ⟨_, rfl, shape_rotateR8 s .rr .a⟩
  case sla_B => exact ⟨_, rfl, shape_rotateR8 s .sla .b⟩
  case sla_C => exact ⟨_, rfl, shape_rotateR8 s .sla .c⟩
  case sla_D => exact ⟨_, rfl, shape_rotateR8 s .sla .d⟩
  case sla_E => exact ⟨_, rfl, shape_rotateR8 s .sla .e⟩
  case sla_H => exact ⟨_, rfl, shape_rotateR8 s .sla .h⟩
  case sla_L => exact ⟨_, rfl, shape_rotateR8 s .sla .l⟩
  case sla_iHL => exact ⟨_, rfl, shape_rotateR8 s .sla .indHL⟩
  case sla_A => exact ⟨_, rfl, shape_rotateR8 s .sla .a⟩
  case sra_B => exact ⟨_, rfl, shape_rotateR8 s .sra .b⟩
  case sra_C => exact ⟨_, rfl, shape_rotateR8 s .sra .c⟩
  case sra_D => exact ⟨_, rfl, shape_rotateR8 s .sra .d⟩
  case sra_E => exact ⟨_, rfl, shape_rotateR8 s .sra .e⟩
  case sra_H => exact ⟨_, rfl, shape_rotateR8 s .sra .h⟩
  case sra_L => exact ⟨_, rfl, shape_rotateR8 s .sra .l⟩
  case sra_iHL => exact ⟨_, rfl, shape_rotateR8 s .sra .indHL⟩
  case sra_A => exact ⟨_, rfl, shape_rotateR8 s .sra .a⟩
  case swap_B => exact ⟨_, rfl, shape_rotateR8 s .swap .b⟩
  case swap_C => exact ⟨_, rfl, shape_rotateR8 s .swap .c⟩
  case swap_D => exact ⟨_, rfl, shape_rotateR8 s .swap .d⟩
  case swap_E => exact ⟨_, rfl, shape_rotateR8 s .swap .e⟩
  case swap_H => exact ⟨_, rfl, shape_rotateR8 s .swap .h⟩
  case swap_L => exact ⟨_, rfl, shape_rotateR8 s .swap .l⟩
  case swap_iHL => exact ⟨_, rfl, shape_rotateR8 s .swap .indHL⟩
  case swap_A => exact ⟨_, rfl, shape_rotateR8 s .swap .a⟩
  case srl_B => exact ⟨_, rfl, shape_rotateR8 s .srl .b⟩
  case srl_C => exact ⟨_, rfl, shape_rotateR8 s .srl .c⟩
  case srl_D => exact ⟨_, rfl, shape_rotateR8 s .srl .d⟩
  case srl_E => exact ⟨_, rfl, shape_rotateR8 s .srl .e⟩
  case srl_H => exact ⟨_, rfl, shape_rotateR8 s .srl .h⟩
  case srl_L => exact ⟨_, rfl, shape_rotateR8 s .srl .l⟩
  case srl_iHL => exact ⟨_, rfl, shape_rotateR8 s .srl .indHL⟩
  case srl_A => exact ⟨_, rfl, shape_rotateR8 s .srl .a⟩
  case bit_0_B => exact ⟨_, rfl, shape_bitR8 s 0 .b⟩
  case bit_0_C => exact ⟨_, rfl, shape_bitR8 s 0 .c⟩
  case bit_0_D => exact ⟨_, rfl, shape_bitR8 s 0 .d⟩
  case bit_0_E => exact ⟨_, rfl, shape_bitR8 s 0 .e⟩
  case bit_0_H => exact ⟨_, rfl, shape_bitR8 s 0 .h⟩
  case bit_0_L => exact ⟨_, rfl, shape_bitR8 s 0 .l⟩
  case bit_0_iHL => exact ⟨_, rfl, shape_bitR8 s 0 .indHL⟩
  case bit_0_A => exact ⟨_, rfl, shape_bitR8 s 0 .a⟩
  case bit_1_B => exact ⟨_, rfl, shape_bitR8 s 1 .b⟩
  case bit_1_C => exact ⟨_, rfl, shape_bitR8 s 1 .c⟩
  case bit_1_D => exact ⟨_, rfl, shape_bitR8 s 1 .d⟩
  case bit_1_E => exact ⟨_, rfl, shape_bitR8 s 1 .e⟩
  case bit_1_H => exact ⟨_, rfl, shape_bitR8 s 1 .h⟩
  case bit_1_L => exact ⟨_, rfl, shape_bitR8 s 1 .l⟩
  case bit_1_iHL => exact ⟨_, rfl, shape_bitR8 s 1 .indHL⟩
  case bit_1_A => exact ⟨_, rfl, shape_bitR8 s 1 .a⟩
  case bit_2_B => exact ⟨_, rfl, shape_bitR8 s 2 .b⟩
  case bit_2_C => exact ⟨_, rfl, shape_bitR8 s 2 .c⟩
  case bit_2_D => exact ⟨_, rfl, shape_bitR8 s 2 .d⟩
  case bit_2_E => exact ⟨_, rfl, shape_bitR8 s 2 .e⟩
  case bit_2_H => exact ⟨_, rfl, shape_bitR8 s 2 .h⟩
  case bit_2_L => exact ⟨_, rfl, shape_bitR8 s 2 .l⟩
  case bit_2_iHL => exact ⟨_, rfl, shape_bitR8 s 2 .indHL⟩
  case bit_2_A => exact ⟨_, rfl, shape_bitR8 s 2 .a⟩
  case bit_3_B => exact ⟨_, rfl, shape_bitR8 s 3 .b⟩
  case bit_3_C => exact ⟨_, rfl, shape_bitR8 s 3 .c⟩
  case bit_3_D => exact ⟨_, rfl, shape_bitR8 s 3 .d⟩
  case bit_3_E => exact ⟨_, rfl, shape_bitR8 s 3 .e⟩
  case bit_3_H => exact ⟨_, rfl, shape_bitR8 s 3 .h⟩
  case bit_3_L => exact ⟨_, rfl, shape_bitR8 s 3 .l⟩
  case bit_3_iHL => exact ⟨_, rfl, shape_bitR8 s 3 .indHL⟩
  case bit_3_A => exact ⟨_, rfl, shape_bitR8 s 3 .a⟩
  case bit_4_B => exact ⟨_, rfl, shape_bitR8 s 4 .b⟩
  case bit_4_C => exact ⟨_, rfl, shape_bitR8 s 4 .c⟩
  case bit_4_D => exact ⟨_, rfl, shape_bitR8 s 4 .d⟩
  case bit_4_E => exact ⟨_, rfl, shape_bitR8 s 4 .e⟩
  case bit_4_H => exact ⟨_, rfl, shape_bitR8 s 4 .h⟩
  case bit_4_L => exact ⟨_, rfl, shape_bitR8 s 4 .l⟩
  case bit_4_iHL => exact ⟨_, rfl, shape_bitR8 s 4 .indHL⟩
  case bit_4_A => exact ⟨_, rfl, shape_bitR8 s 4 .a⟩
  case bit_5_B => exact ⟨_, rfl, shape_bitR8 s 5 .b⟩
  case bit_5_C => exact ⟨_, rfl, shape_bitR8 s 5 .c⟩
  case bit_5_D => exact ⟨_, rfl, shape_bitR8 s 5 .d⟩
  case bit_5_E => exact ⟨_, rfl, shape_bitR8 s 5 .e⟩
  case bit_5_H => exact ⟨_, rfl, shape_bitR8 s 5 .h⟩
  case bit_5_L => exact ⟨_, rfl, shape_bitR8 s 5 .l⟩
  case bit_5_iHL => exact ⟨_, rfl, shape_bitR8 s 5 .indHL⟩
  case bit_5_A => exact ⟨_, rfl, shape_bitR8 s 5 .a⟩
  case bit_6_B => exact ⟨_, rfl, shape_bitR8 s 6 .b⟩
  case bit_6_C => exact ⟨_, rfl, shape_bitR8 s 6 .c⟩
  case bit_6_D => exact ⟨_, rfl, shape_bitR8 s 6 .d⟩
  case bit_6_E => exact ⟨_, rfl, shape_bitR8 s 6 .e⟩
  case bit_6_H => exact ⟨_, rfl, shape_bitR8 s 6 .h⟩
  case bit_6_L => exact ⟨_, rfl, shape_bitR8 s 6 .l⟩
  case bit_6_iHL => exact ⟨_, rfl, shape_bitR8 s 6 .indHL⟩
  case bit_6_A => exact ⟨_, rfl, shape_bitR8 s 6 .a⟩
  case bit_7_B => exact ⟨_, rfl, shape_bitR8 s 7 .b⟩
  case bit_7_C => exact ⟨_, rfl, shape_bitR8 s 7 .c⟩
  case bit_7_D => exact ⟨_, rfl, shape_bitR8 s 7 .d⟩
  case bit_7_E => exact ⟨_, rfl, shape_bitR8 s 7 .e⟩
  case bit_7_H => exact ⟨_, rfl, shape_bitR8 s 7 .h⟩
  case bit_7_L => exact ⟨_, rfl, shape_bitR8 s 7 .l⟩
  case bit_7_iHL => exact ⟨_, rfl, shape_bitR8 s 7 .indHL⟩
  case bit_7_A => exact ⟨_, rfl, shape_bitR8 s 7 .a⟩
  case res_0_B => exact ⟨_, rfl, shape_resR8 s 0 .b⟩
  case res_0_C => exact ⟨_, rfl, shape_resR8 s 0 .c⟩
  case res_0_D => exact ⟨_, rfl, shape_resR8 s 0 .d⟩
  case res_0_E => exact ⟨_, rfl, shape_resR8 s 0 .e⟩
  case res_0_H => exact ⟨_, rfl, shape_resR8 s 0 .h⟩
  case res_0_L => exact ⟨_, rfl, shape_resR8 s 0 .l⟩
  case res_0_iHL => exact ⟨_, rfl, shape_resR8 s 0 .indHL⟩
  case res_0_A => exact ⟨_, rfl, shape_resR8 s 0 .a⟩
  case res_1_B => exact ⟨_, rfl, shape_resR8 s 1 .b⟩
  case res_1_C => exact ⟨_, rfl, shape_resR8 s 1 .c⟩
  case res_1_D => exact ⟨_, rfl, shape_resR8 s 1 .d⟩
  case res_1_E => exact ⟨_, rfl, shape_resR8 s 1 .e⟩
  case res_1_H => exact ⟨_, rfl, shape_resR8 s 1 .h⟩
  case res_1_L => exact ⟨_, rfl, shape_resR8 s 1 .l⟩
  case res_1_iHL => exact ⟨_, rfl, shape_resR8 s 1 .indHL⟩
  case res_1_A => exact ⟨_, rfl, shape_resR8 s 1 .a⟩
  case res_2_B => exact ⟨_, rfl, shape_resR8 s 2 .b⟩
  case res_2_C => exact ⟨_, rfl, shape_resR8 s 2 .c⟩
  case res_2_D => exact ⟨_, rfl, shape_resR8 s 2 .d⟩
  case res_2_E => exact ⟨_, rfl, shape_resR8 s 2 .e⟩
  case res_2_H => exact ⟨_, rfl, shape_resR8 s 2 .h⟩
  case res_2_L => exact ⟨_, rfl, shape_resR8 s 2 .l⟩
  case res_2_iHL => exact ⟨_, rfl, shape_resR8 s 2 .indHL⟩
  case res_2_A => exact ⟨_, rfl, shape_resR8 s 2 .a⟩
  case res_3_B => exact ⟨_, rfl, shape_resR8 s 3 .b⟩
  case res_3_C => exact ⟨_, rfl, shape_resR8 s 3 .c⟩
  case res_3_D => exact ⟨_, rfl, shape_resR8 s 3 .d⟩
  case res_3_E => exact ⟨_, rfl, shape_resR8 s 3 .e⟩
  case res_3_H => exact ⟨_, rfl, shape_resR8 s 3 .h⟩
  case res_3_L => exact ⟨_, rfl, shape_resR8 s 3 .l⟩
  case res_3_iHL => exact ⟨_, rfl, shape_resR8 s 3 .indHL⟩
  case res_3_A => exact ⟨_, rfl, shape_resR8 s 3 .a⟩
  case res_4_B => exact ⟨_, rfl, shape_resR8 s 4 .b⟩
  case res_4_C => exact ⟨_, rfl, shape_resR8 s 4 .c⟩
  case res_4_D => exact ⟨_, rfl, shape_resR8 s 4 .d⟩
  case res_4_E => exact ⟨_, rfl, shape_resR8 s 4 .e⟩
  case res_4_H => exact ⟨_, rfl, shape_resR8 s 4 .h⟩
  case res_4_L => exact ⟨_, rfl, shape_resR8 s 4 .l⟩
  case res_4_iHL => exact ⟨_, rfl, shape_resR8 s 4 .indHL⟩
  case res_4_A => exact ⟨_, rfl, shape_resR8 s 4 .a⟩
  case res_5_B => exact ⟨_, rfl, shape_resR8 s 5 .b⟩
  case res_5_C => exact ⟨_, rfl, shape_resR8 s 5 .c⟩
  case res_5_D => exact ⟨_, rfl, shape_resR8 s 5 .d⟩
  case res_5_E => exact ⟨_, rfl, shape_resR8 s 5 .e⟩
  case res_5_H => exact ⟨_, rfl, shape_resR8 s 5 .h⟩
  case res_5_L => exact ⟨_, rfl, shape_resR8 s 5 .l⟩
  case res_5_iHL => exact ⟨_, rfl, shape_resR8 s 5 .indHL⟩
  case res_5_A => exact ⟨_, rfl, shape_resR8 s 5 .a⟩
  case res_6_B => exact ⟨_, rfl, shape_resR8 s 6 .b⟩
  case res_6_C => exact ⟨_, rfl, shape_resR8 s 6 .c⟩
  case res_6_D => exact ⟨_, rfl, shape_resR8 s 6 .d⟩
  case res_6_E => exact ⟨_, rfl, shape_resR8 s 6 .e⟩
  case res_6_H => exact ⟨_, rfl, shape_resR8 s 6 .h⟩
  case res_6_L => exact ⟨_, rfl, shape_resR8 s 6 .l⟩
  case res_6_iHL => exact ⟨_, rfl, shape_resR8 s 6 .indHL⟩
  case res_6_A => exact ⟨_, rfl, shape_resR8 s 6 .a⟩
  case res_7_B => exact ⟨_, rfl, shape_resR8 s 7 .b⟩
  case res_7_C => exact ⟨_, rfl, shape_resR8 s 7 .c⟩
  case res_7_D => exact ⟨_, rfl, shape_resR8 s 7 .d⟩
  case res_7_E => exact ⟨_, rfl, shape_resR8 s 7 .e⟩
  case res_7_H => exact ⟨_, rfl, shape_resR8 s 7 .h⟩
  case res_7_L => exact ⟨_, rfl, shape_resR8 s 7 .l⟩
  case res_7_iHL => exact ⟨_, rfl, shape_resR8 s 7 .indHL⟩
  case res_7_A => exact ⟨_, rfl, shape_resR8 s 7 .a⟩
  case set_0_B => exact ⟨_, rfl, shape_setR8Bit s 0 .b⟩
  case set_0_C => exact ⟨_, rfl, shape_setR8Bit s 0 .c⟩
  case set_0_D => exact ⟨_, rfl, shape_setR8Bit s 0 .d⟩
  case set_0_E => exact ⟨_, rfl, shape_setR8Bit s 0 .e⟩
  case set_0_H => exact ⟨_, rfl, shape_setR8Bit s 0 .h⟩
  case set_0_L => exact ⟨_, rfl, shape_setR8Bit s 0 .l⟩
  case set_0_iHL => exact ⟨_, rfl, shape_setR8Bit s 0 .indHL⟩
  case set_0_A => exact ⟨_, rfl, shape_setR8Bit s 0 .a⟩
  case set_1_B => exact ⟨_, rfl, shape_setR8Bit s 1 .b⟩
  case set_1_C => exact ⟨_, rfl, shape_setR8Bit s 1 .c⟩
  case set_1_D => exact ⟨_, rfl, shape_setR8Bit s 1 .d⟩
  case set_1_E => exact ⟨_, rfl, shape_setR8Bit s 1 .e⟩
  case set_1_H => exact ⟨_, rfl, shape_setR8Bit s 1 .h⟩
  case set_1_L => exact ⟨_, rfl, shape_setR8Bit s 1 .l⟩
  case set_1_iHL => exact ⟨_, rfl, shape_setR8Bit s 1 .indHL⟩
  case set_1_A => exact ⟨_, rfl, shape_setR8Bit s 1 .a⟩
  case set_2_B => exact ⟨_, rfl, shape_setR8Bit s 2 .b⟩
  case set_2_C => exact ⟨_, rfl, shape_setR8Bit s 2 .c⟩
  case set_2_D => exact ⟨_, rfl, shape_setR8Bit s 2 .d⟩
  case set_2_E => exact ⟨_, rfl, shape_setR8Bit s 2 .e⟩
  case set_2_H => exact ⟨_, rfl, shape_setR8Bit s 2 .h⟩
  case set_2_L => exact ⟨_, rfl, shape_setR8Bit s 2 .l⟩
  case set_2_iHL => exact ⟨_, rfl, shape_setR8Bit s 2 .indHL⟩
  case set_2_A => exact ⟨_, rfl, shape_setR8Bit s 2 .a⟩
  case set_3_B => exact ⟨_, rfl, shape_setR8Bit s 3 .b⟩
  case set_3_C => exact ⟨_, rfl, shape_setR8Bit s 3 .c⟩
  case set_3_D => exact ⟨_, rfl, shape_setR8Bit s 3 .d⟩
  case set_3_E => exact ⟨_, rfl, shape_setR8Bit s 3 .e⟩
  case set_3_H => exact ⟨_, rfl, shape_setR8Bit s 3 .h⟩
  case set_3_L => exact ⟨_, rfl, shape_setR8Bit s 3 .l⟩
  case set_3_iHL => exact ⟨_, rfl, shape_setR8Bit s 3 .indHL⟩
  case set_3_A => exact ⟨_, rfl, shape_setR8Bit s 3 .a⟩
  case set_4_B => exact ⟨_, rfl, shape_setR8Bit s 4 .b⟩
  case set_4_C => exact ⟨_, rfl, shape_setR8Bit s 4 .c⟩
  case set_4_D => exact ⟨_, rfl, shape_setR8Bit s 4 .d⟩
  case set_4_E => exact ⟨_, rfl, shape_setR8Bit s 4 .e⟩
  case set_4_H => exact ⟨_, rfl, shape_setR8Bit s 4 .h⟩
  case set_4_L => exact ⟨_, rfl, shape_setR8Bit s 4 .l⟩
  case set_4_iHL => exact ⟨_, rfl, shape_setR8Bit s 4 .indHL⟩
  case set_4_A => exact ⟨_, rfl, shape_setR8Bit s 4 .a⟩
  case set_5_B => exact ⟨_, rfl, shape_setR8Bit s 5 .b⟩
  case set_5_C => exact ⟨_, rfl, shape_setR8Bit s 5 .c⟩
  case set_5_D => exact ⟨_, rfl, shape_setR8Bit s 5 .d⟩
  case set_5_E => exact ⟨_, rfl, shape_setR8Bit s 5 .e⟩
  case set_5_H => exact ⟨_, rfl, shape_setR8Bit s 5 .h⟩
  case set_5_L => exact ⟨_, rfl, shape_setR8Bit s 5 .l⟩
  case set_5_iHL => exact ⟨_, rfl, shape_setR8Bit s 5 .indHL⟩
  case set_5_A => exact ⟨_, rfl, shape_setR8Bit s 5 .a⟩
  case set_6_B => exact ⟨_, rfl, shape_setR8Bit s 6 .b⟩
  case set_6_C => exact ⟨_, rfl, shape_setR8Bit s 6 .c⟩
  case set_6_D => exact ⟨_, rfl, shape_setR8Bit s 6 .d⟩
  case set_6_E => exact ⟨_, rfl, shape_setR8Bit s 6 .e⟩
  case set_6_H => exact ⟨_, rfl, shape_setR8Bit s 6 .h⟩
  case set_6_L => exact ⟨_, rfl, shape_setR8Bit s 6 .l⟩
  case set_6_iHL => exact ⟨_, rfl, shape_setR8Bit s 6 .indHL⟩
  case set_6_A => exact ⟨_, rfl, shape_setR8Bit s 6 .a⟩
  case set_7_B => exact ⟨_, rfl, shape_setR8Bit s 7 .b⟩
  case set_7_C => exact ⟨_, rfl, shape_setR8Bit s 7 .c⟩
  case set_7_D => exact ⟨_, rfl, shape_setR8Bit s 7 .d⟩
  case set_7_E => exact ⟨_, rfl, shape_setR8Bit s 7 .e⟩
  case set_7_H => exact ⟨_, rfl, shape_setR8Bit s 7 .h⟩
  case set_7_L => exact ⟨_, rfl, shape_setR8Bit s 7 .l⟩
  case set_7_iHL => exact ⟨_, rfl, shape_setR8Bit s 7 .indHL⟩
  case set_7_A => exact ⟨_, rfl, shape_setR8Bit s 7 .a⟩

/-! ### What follows for every instruction -/

/-- An instruction keeps the invariant. -/
theorem inv_exec {i : Instr} {s t : State} (h : s.Inv) (he : exec i s = .next t) : t.Inv := by
  obtain ⟨t', e, w, c, n, rfl, -, -, -, hb⟩ := exec_shape i s
  rw [e] at he
  cases he
  have hw := h.writes w
  refine ⟨hw.mem, hw.owned, hw.ppu, hw.timer, hw.cart, fun hp => ?_⟩
  have hp' : s.params.haltBug = false := by rw [← writes_params s w]; exact hp
  rcases hb with hb | hb
  · exact hb.trans (h.haltBug hp')
  · rw [hp'] at hb; exact absurd hb (by decide)

/-- A list of writes changes what an address reads only where `touches` says so. -/
theorem read_writes {s : State} {b : Addr} (l : List (Addr × Byte)) (h : ∀ w ∈ l, touches w.1 b = false) :
    (s.writes l).read b = s.read b := by
  induction l generalizing s with
  | nil => rfl
  | cons w l ih =>
    exact (ih fun x hx => h x (by simp [hx])).trans (State.read_write w.2 (h w (by simp)))

end Sys2Proof.Machine
end

