-- ==== Sys2Proof/Laws/Step.lean ====
section
/-! SUPPORT. What one step can do, once (60_exceptions.md rules R320 to R324): the three actions, the fetch, and the
inversion `step_cases` from which every fact about steps follows. -/

namespace Sys2Proof.Machine

namespace State

/-! ### The fetch -/

/-- Operand bytes are read from PC on, and PC ends past them (rule R12). -/
theorem fetchBytes_eq (n : Nat) (s : State) :
    fetchBytes n s =
      ((List.range n).map fun i => s.read (s.cpu.pc + BitVec.ofNat 16 i), s.setPc (s.cpu.pc + BitVec.ofNat 16 n)) := by
  induction n generalizing s with
  | zero => simp [fetchBytes, setPc]
  | succ n ih =>
    unfold fetchBytes
    dsimp only
    rw [ih]
    have e : ∀ i : Nat, s.cpu.pc + 1 + BitVec.ofNat 16 i = s.cpu.pc + BitVec.ofNat 16 (i + 1) := fun i => by
      apply BitVec.eq_of_toNat_eq; simp; omega
    simp only [fetch8, setPc_cpu, read_setPc, List.range_succ_eq_map, List.map_cons, List.map_map, Prod.mk.injEq,
      List.cons.injEq, BitVec.ofNat_eq_ofNat, BitVec.add_zero, true_and]
    refine ⟨?_, congrArg (fun p => ({ s with cpu.pc := p } : State)) (e n)⟩
    apply List.map_congr_left
    intro i _
    exact congrArg s.read (e i)

/-- The opcode fetch with no HALT bug waiting (rule R323). -/
theorem fetchOpcode_plain {s : State} (h : s.cpu.haltBug = false) :
    s.fetchOpcode = (s.read s.cpu.pc, s.setPc (s.cpu.pc + 1)) := by
  unfold fetchOpcode; simp [h, fetch8]

/-- The opcode fetch with the HALT bug waiting: PC stays (rule R323). -/
theorem fetchOpcode_bug {s : State} (h : s.cpu.haltBug = true) :
    s.fetchOpcode = (s.read s.cpu.pc, { s with cpu.haltBug := false }) := by
  unfold fetchOpcode; simp [h]

/-- A fetch writes PC and the HALT bug alone. -/
theorem fetched_frame (s : State) :
    ∃ p, s.fetched.2 = { s with cpu.pc := p, cpu.haltBug := false } := by
  unfold fetched
  dsimp only
  rw [fetchBytes_eq]
  cases hb : s.cpu.haltBug with
  | false =>
    rw [fetchOpcode_plain hb]
    exact ⟨_, congrArg (fun x => ({ s with cpu.pc := _, cpu.haltBug := x } : State)) hb⟩
  | true => rw [fetchOpcode_bug hb]; exact ⟨_, rfl⟩

/-- A fetch reads what the bus shows and changes nothing that a read looks at. -/
theorem read_fetched (s : State) (a : Addr) : s.fetched.2.read a = s.read a := by
  obtain ⟨p, h⟩ := fetched_frame s; rw [h]; rfl

theorem Inv.fetched {s : State} (h : s.Inv) : s.fetched.2.Inv := by
  obtain ⟨p, e⟩ := fetched_frame s
  rw [e]
  exact ⟨h.mem, h.owned, h.ppu, h.timer, h.cart, fun _ => rfl⟩

/-! ### The actions -/

/-- What the CPU does in a step, by the tests of rule R320 in their order. -/
theorem cpuAction_cases (s : State) :
    (s.acceptExt.cpu.lock = true ∧ s.cpuAction = .idle s.acceptExt) ∨
      (s.acceptExt.cpu.lock = false ∧ (s.acceptExt.wakeStop s.ext).cpu.stop = true ∧
        s.cpuAction = .idle (s.acceptExt.wakeStop s.ext)) ∨
      (s.acceptExt.cpu.lock = false ∧ (s.acceptExt.wakeStop s.ext).cpu.stop = false ∧
        s.cpuAction = (s.acceptExt.wakeStop s.ext).wakeHalt.runningAction) := by
  unfold cpuAction
  dsimp only
  cases h1 : s.acceptExt.cpu.lock
  · cases h2 : (s.acceptExt.wakeStop s.ext).cpu.stop <;> simp
  · simp

/-- The three actions of a CPU that is neither locked nor stopped (rules R342, R345). -/
theorem runningAction_cases (s : State) :
    (s.cpu.ime = true ∧ s.pending ≠ 0 ∧ s.runningAction = .service s (firstPending s.pending)) ∨
      (¬ (s.cpu.ime = true ∧ s.pending ≠ 0) ∧ s.cpu.halt = true ∧ s.runningAction = .idle s) ∨
      (¬ (s.cpu.ime = true ∧ s.pending ≠ 0) ∧ s.cpu.halt = false ∧ s.runningAction = .execute s) := by
  unfold runningAction
  by_cases h : s.cpu.ime = true ∧ s.pending ≠ 0
  · exact .inl ⟨h.1, h.2, if_pos h⟩
  · rw [if_neg h]
    cases h2 : s.cpu.halt
    · exact .inr (.inr ⟨h, rfl, rfl⟩)
    · exact .inr (.inl ⟨h, rfl, rfl⟩)

/-- The state an action works on differs from the step's first state by the outside requests and the two wakes. -/
def Woken (s t : State) : Prop :=
  ∃ stop halt, t = { s.acceptExt with cpu.stop := stop, cpu.halt := halt }

theorem woken_acceptExt (s : State) : Woken s s.acceptExt := ⟨s.cpu.stop, s.cpu.halt, rfl⟩

theorem woken_wakeStop (s : State) (x : ExtIrq) : Woken s (s.acceptExt.wakeStop x) := by
  unfold wakeStop
  split
  · exact ⟨false, s.cpu.halt, rfl⟩
  · exact ⟨s.cpu.stop, s.cpu.halt, rfl⟩

theorem woken_wakeHalt {s t : State} (h : Woken s t) : Woken s t.wakeHalt := by
  obtain ⟨a, b, rfl⟩ := h
  unfold wakeHalt
  split
  · exact ⟨a, false, rfl⟩
  · exact ⟨a, b, rfl⟩

theorem cpuAction_woken (s : State) :
    (∃ t, s.cpuAction = .idle t ∧ Woken s t) ∨ (∃ t q, s.cpuAction = .service t q ∧ Woken s t) ∨
      ∃ t, s.cpuAction = .execute t ∧ Woken s t := by
  rcases cpuAction_cases s with ⟨-, h⟩ | ⟨-, -, h⟩ | ⟨-, -, h⟩
  · exact .inl ⟨_, h, woken_acceptExt s⟩
  · exact .inl ⟨_, h, woken_wakeStop s _⟩
  · have hw := woken_wakeHalt (woken_wakeStop s s.ext)
    rcases runningAction_cases (s.acceptExt.wakeStop s.ext).wakeHalt with ⟨-, -, e⟩ | ⟨-, -, e⟩ | ⟨-, -, e⟩
    · exact .inr (.inl ⟨_, _, h.trans e, hw⟩)
    · exact .inl ⟨_, h.trans e, hw⟩
    · exact .inr (.inr ⟨_, h.trans e, hw⟩)

theorem Inv.woken {s t : State} (h : s.Inv) (hw : Woken s t) : t.Inv := by
  obtain ⟨a, b, rfl⟩ := hw
  exact ⟨h.mem, h.owned, h.ppu, h.timer, h.cart, h.haltBug⟩

theorem Inv.retire {s : State} (h : s.Inv) (w : ImeDelay) : (s.retire w).Inv := by
  unfold State.retire
  split
  · exact ⟨h.mem, h.owned, h.ppu, h.timer, h.cart, h.haltBug⟩
  · exact h

theorem Inv.serviceInterrupt {s : State} (h : s.Inv) (q : IrqSource) : (s.serviceInterrupt q).Inv := by
  have h1 : ({ s with cpu.ime := false, cpu.imeEnableAfter := .none, cpu.halt := false, cpu.haltBug := false } :
      State).Inv := ⟨h.mem, h.owned, h.ppu, h.timer, h.cart, fun _ => rfl⟩
  have h2 := h1.push16 s.cpu.pc
  exact ⟨h2.mem, h2.owned, h2.ppu, h2.timer, h2.cart, h2.haltBug⟩

end State

open State

/-- What one step does. -/
theorem step_cases (s : State) :
    (∃ t, s.cpuAction = .idle t ∧ Woken s t ∧ step s = .next (t.spend 4).advance) ∨
      (∃ t q, s.cpuAction = .service t q ∧ Woken s t ∧ step s = .next (t.serviceInterrupt q).advance) ∨
      ∃ t u, s.cpuAction = .execute t ∧ Woken s t ∧ exec t.fetched.1 t.fetched.2 = .next u ∧
        Shape (t.fetched.1.stores t.fetched.2) (controls t.fetched.1) t.fetched.2 u ∧
        step s = .next (u.retire t.cpu.imeEnableAfter).advance := by
  rcases cpuAction_woken s with ⟨t, h, hw⟩ | ⟨t, q, h, hw⟩ | ⟨t, h, hw⟩
  · exact .inl ⟨t, h, hw, by unfold step; rw [h]⟩
  · exact .inr (.inl ⟨t, q, h, hw, by unfold step; rw [h]⟩)
  · obtain ⟨u, e, hs⟩ := exec_shape t.fetched.1 t.fetched.2
    exact .inr (.inr ⟨t, u, h, hw, e, hs, by unfold step; rw [h]; dsimp only; rw [e]⟩)

end Sys2Proof.Machine
end

