-- ==== Sys2Proof/Tests/Slice0.lean ====
section
/-! SUPPORT. Tests of single steps, with expected results from 95_test_vectors.md and 96_test_vectors_devices_programs.md
(the number of a vector is in the test's name), and for every obligation with hypotheses a witness that meets them. -/

namespace Sys2Proof.Tests

open Sys2Proof.Machine

/-! ### Small states -/

/-- The start state of part 2 of 95_test_vectors.md: registers, flags and I/O zero, LCD off, kind None. -/
def base : State :=
  { State.reset with
    cpu := { Cpu.reset with a := 0, flags := .ofByte 0, b := 0, c := 0, d := 0, e := 0, h := 0, l := 0 }
    irq := { ifr := 0, ie := 0 }
    timer := { div := 0, tima := 0, tma := 0, tac := 0, reload := 0 }
    ppu := { Ppu.reset with
      lcdc := 0, dma := 0, bgp := 0, obp0 := 0, obp1 := 0, mode := .hblank, lycFlag := false } }

/-- Registers as words, SP, PC, the cycles, then the bytes at some addresses. -/
def view (watch : List Addr) : Result → List Nat
  | .next t =>
    [t.af.toNat, t.bc.toNat, t.de.toNat, t.hl.toNat, t.cpu.sp.toNat, t.cpu.pc.toNat, t.cycles] ++
      watch.map fun a => (t.read a).toNat
  | _ => []

/-- What one step leaves when the bytes stand at PC. -/
def after (s : State) (code : List Byte) (watch : List Addr) : List Nat :=
  view watch (step (s.placeBytes s.cpu.pc code))

/-- Whether a step goes on to a state with a property. -/
def goesTo (s : State) (p : State → Bool) : Bool :=
  match step s with
  | .next t => p t
  | _ => false

theorem goesTo_spec {s : State} {p : State → Bool} (h : goesTo s p = true) : ∃ t, step s = .next t ∧ p t = true := by
  unfold goesTo at h
  split at h
  · exact ⟨_, ‹_›, h⟩
  · cases h

/-- Whether a step runs an instruction, from a state with a property. -/
def executing (s : State) (p : State → Bool) : Bool :=
  match s.cpuAction with
  | .execute t => p t
  | _ => false

theorem executing_spec {s : State} {p : State → Bool} (h : executing s p = true) :
    ∃ t, s.cpuAction = .execute t ∧ p t = true := by
  unfold executing at h
  split at h
  · exact ⟨_, ‹_›, h⟩
  · cases h

/-- A state with the bytes at PC. -/
def coded (s : State) (code : List Byte) : State := s.placeBytes s.cpu.pc code

/-! ### WellFormed -/

theorem test_prefix_row_is_refused : (Instr.prefixCb 0x37).wellFormed = false := by decide

theorem test_whole_instruction_is_accepted : (Instr.swap_A).wellFormed = true := by decide

/-! ### Decoding: the fields x, y, z of rules R131 to R142 written out bit by bit -/

theorem test_decode_load8 : decode [0b01_000_111#8] = .ok (.ld_B_A, []) := by decide
theorem test_decode_load8_imm : decode [0b00_001_110#8, 0xFF] = .ok (.ld_C_n8 0xFF, []) := by decide
theorem test_decode_pointer : decode [0b00_111_010#8] = .ok (.ld_A_iHLdec, []) := by decide
theorem test_decode_high_page : decode [0b11_110_010#8] = .ok (.ldh_A_iC, []) := by decide
theorem test_decode_absolute : decode [0b11_101_010#8, 0x80, 0xFF] = .ok (.ld_ia16_A 0xFF80, []) := by decide
theorem test_decode_load16 : decode [0b00_010_001#8, 0x34, 0x12] = .ok (.ld_DE_n16 0x1234, []) := by decide
theorem test_decode_store_sp : decode [0b00_001_000#8, 0x00, 0xC2] = .ok (.ld_ia16_SP 0xC200, []) := by decide
theorem test_decode_push : decode [0b11_100_101#8] = .ok (.push_HL, []) := by decide
theorem test_decode_pop : decode [0b11_110_001#8] = .ok (.pop_AF, []) := by decide
theorem test_decode_alu : decode [0b10_111_110#8] = .ok (.cp_A_iHL, []) := by decide
theorem test_decode_alu_imm : decode [0b11_011_110#8, 0x05] = .ok (.sbc_A_n8 0x05, []) := by decide
theorem test_decode_inc : decode [0b00_101_100#8] = .ok (.inc_L, []) := by decide
theorem test_decode_add_hl : decode [0b00_011_001#8] = .ok (.add_HL_DE, []) := by decide
theorem test_decode_dec_pair : decode [0b00_111_011#8] = .ok (.dec_SP, []) := by decide
theorem test_decode_rotate_a : decode [0b00_001_111#8] = .ok (.rrca, []) := by decide
theorem test_decode_rotate : decode [0xCB, 0b00_101_010#8] = .ok (.sra_D, []) := by decide
theorem test_decode_res : decode [0xCB, 0b10_111_110#8] = .ok (.res_7_iHL, []) := by decide
theorem test_decode_jp : decode [0b11_011_010#8, 0x00, 0xC0] = .ok (.jp_C_a16 0xC000, []) := by decide
theorem test_decode_jr : decode [0b00_011_000#8, 0xFE] = .ok (.jr_e8 0xFE, []) := by decide
theorem test_decode_call : decode [0b11_001_100#8, 0x00, 0x02] = .ok (.call_Z_a16 0x0200, []) := by decide
theorem test_decode_ret : decode [0b11_010_000#8] = .ok (.ret_NC, []) := by decide
theorem test_decode_control : decode [0b11_111_011#8] = .ok (.ei, []) := by decide
theorem test_decode_undefined : decode [0b11_010_011#8] = .ok (.illegal_D3, []) := by decide
theorem test_decode_truncated : decode [0xC3, 0x50] = .error (.truncated 0xC3) := by decide

/-- A CB row's table word has the prefix byte in its high byte; another row's first byte is its low byte (log 13). -/
theorem test_table_words :
    decodeTableWord 16 0xCB37 = some .swap_A ∧ decodeTableWord 8 0x41 = some .ld_B_C ∧
      decodeTableWord 8 0xCB = some (.prefixCb 0x00) := by decide

theorem test_fetch_word_runs_next :
    goesTo (State.reset.withFetchWord 16 0xCB37) (fun t => decide (t.cpu.a = 0x10 ∧ t.cpu.pc = 0x0102)) = true := by
  decide

/-! ### Single instructions: vectors LD, LW, AL, AW, RS, CF, CC. Each compares AF, BC, DE, HL, SP, PC, the cycles, and
the bytes the vector lists. -/

theorem test_LD1 : -- LD B,A
    after { base with cpu.a := 0x5A } [0x47] [] = [0x5A00, 0x5A00, 0x0000, 0x0000, 0xFFFE, 0x0101, 4] := by decide
theorem test_LD2 : -- LD H,L
    after { base with cpu.l := 0x9C, cpu.flags := .ofByte 0xF0 } [0x65] [] =
      [0x00F0, 0x0000, 0x0000, 0x9C9C, 0xFFFE, 0x0101, 4] := by decide
theorem test_LD4 : -- LD C,0xFF
    after base [0x0E, 0xFF] [] = [0x0000, 0x00FF, 0x0000, 0x0000, 0xFFFE, 0x0102, 8] := by decide
theorem test_LD5 : -- LD A,(HL)
    after { base with cpu.h := 0xC0, cpu.l := 0x10, mem := [(0xC010, 0xA5)] } [0x7E] [] =
      [0xA500, 0x0000, 0x0000, 0xC010, 0xFFFE, 0x0101, 8] := by decide
theorem test_LD6 : -- LD L,(HL)
    after { base with cpu.h := 0xC0, cpu.l := 0x10, mem := [(0xC010, 0x33)] } [0x6E] [] =
      [0x0000, 0x0000, 0x0000, 0xC033, 0xFFFE, 0x0101, 8] := by decide
theorem test_LD7 : -- LD (HL),E
    after { base with cpu.e := 0x42, cpu.h := 0xC1 } [0x73] [0xC100] =
      [0x0000, 0x0000, 0x0042, 0xC100, 0xFFFE, 0x0101, 8, 0x42] := by decide
theorem test_LD9 : -- LD (HL),E
    after { base with cpu.e := 0x42, cpu.h := 0x12, cpu.l := 0x34 } [0x73] [] =
      [0x0000, 0x0000, 0x0042, 0x1234, 0xFFFE, 0x0101, 8] := by decide
theorem test_LD10 : -- LD (HL),0x99
    after { base with cpu.h := 0xD0 } [0x36, 0x99] [0xD000] =
      [0x0000, 0x0000, 0x0000, 0xD000, 0xFFFE, 0x0102, 12, 0x99] := by decide
theorem test_LD11 : -- LD A,(BC)
    after { base with cpu.b := 0xC0, cpu.c := 0x02, mem := [(0xC002, 0x11)] } [0x0A] [] =
      [0x1100, 0xC002, 0x0000, 0x0000, 0xFFFE, 0x0101, 8] := by decide
theorem test_LD12 : -- LD (BC),A
    after { base with cpu.a := 0x7F, cpu.b := 0xC0, cpu.c := 0x03 } [0x02] [0xC003] =
      [0x7F00, 0xC003, 0x0000, 0x0000, 0xFFFE, 0x0101, 8, 0x7F] := by decide
theorem test_LD13 : -- LD A,(DE)
    after { base with cpu.d := 0xFE, cpu.e := 0xA0 } [0x1A] [] =
      [0xFF00, 0x0000, 0xFEA0, 0x0000, 0xFFFE, 0x0101, 8] := by decide
theorem test_LD14 : -- LD (DE),A
    after { base with cpu.a := 0x80, cpu.d := 0xE0, cpu.e := 0x05 } [0x12] [0xC005, 0xE005] =
      [0x8000, 0x0000, 0xE005, 0x0000, 0xFFFE, 0x0101, 8, 0x80, 0x80] := by decide
theorem test_LD15 : -- LD A,(0xC123)
    after { base with mem := [(0xC123, 0x6B)] } [0xFA, 0x23, 0xC1] [] =
      [0x6B00, 0x0000, 0x0000, 0x0000, 0xFFFE, 0x0103, 16] := by decide
theorem test_LD16 : -- LD (0xFF80),A
    after { base with cpu.a := 0x3C } [0xEA, 0x80, 0xFF] [0xFF80] =
      [0x3C00, 0x0000, 0x0000, 0x0000, 0xFFFE, 0x0103, 16, 0x3C] := by decide
theorem test_LD17 : -- LDH A,(0x80)
    after { base with mem := [(0xFF80, 0xEE)] } [0xF0, 0x80] [] =
      [0xEE00, 0x0000, 0x0000, 0x0000, 0xFFFE, 0x0102, 12] := by decide
theorem test_LD18 : -- LDH A,(0x0F)
    after base [0xF0, 0x0F] [] = [0xE000, 0x0000, 0x0000, 0x0000, 0xFFFE, 0x0102, 12] := by decide
theorem test_LD20 : -- LDH A,(C)
    after { base with cpu.c := 0x81, mem := [(0xFF81, 0x12)] } [0xF2] [] =
      [0x1200, 0x0081, 0x0000, 0x0000, 0xFFFE, 0x0101, 8] := by decide
theorem test_LD21 : -- LDH (C),A
    after { base with cpu.a := 0x55, cpu.c := 0xFF } [0xE2] [0xFFFF] =
      [0x5500, 0x00FF, 0x0000, 0x0000, 0xFFFE, 0x0101, 8, 0x55] := by decide
theorem test_LD22 : -- LD (HL+),A
    after { base with cpu.a := 0x01, cpu.h := 0xC0, cpu.l := 0xFF } [0x22] [0xC0FF] =
      [0x0100, 0x0000, 0x0000, 0xC100, 0xFFFE, 0x0101, 8, 0x01] := by decide
theorem test_LD23 : -- LD (HL+),A
    after { base with cpu.a := 0x02, cpu.h := 0xFF, cpu.l := 0xFF } [0x22] [0xFFFF] =
      [0x0200, 0x0000, 0x0000, 0x0000, 0xFFFE, 0x0101, 8, 0x02] := by decide
theorem test_LD24 : -- LD (HL-),A
    after { base with cpu.a := 0x03, cpu.h := 0xC1 } [0x32] [0xC100] =
      [0x0300, 0x0000, 0x0000, 0xC0FF, 0xFFFE, 0x0101, 8, 0x03] := by decide
theorem test_LD25 : -- LD (HL-),A
    after { base with cpu.a := 0x04 } [0x32] [] = [0x0400, 0x0000, 0x0000, 0xFFFF, 0xFFFE, 0x0101, 8] := by decide
theorem test_LD26 : -- LD A,(HL+)
    after { base with cpu.h := 0xC0, cpu.l := 0x20, mem := [(0xC020, 0x9E)] } [0x2A] [] =
      [0x9E00, 0x0000, 0x0000, 0xC021, 0xFFFE, 0x0101, 8] := by decide
theorem test_LD27 : -- LD A,(HL-)
    after { base with cpu.h := 0xC0, cpu.l := 0x20, mem := [(0xC020, 0x9F)] } [0x3A] [] =
      [0x9F00, 0x0000, 0x0000, 0xC01F, 0xFFFE, 0x0101, 8] := by decide
theorem test_LW1 : -- LD BC,0x1234
    after base [0x01, 0x34, 0x12] [] = [0x0000, 0x1234, 0x0000, 0x0000, 0xFFFE, 0x0103, 12] := by decide
theorem test_LW2 : -- LD SP,0xD000
    after base [0x31, 0x00, 0xD0] [] = [0x0000, 0x0000, 0x0000, 0x0000, 0xD000, 0x0103, 12] := by decide
theorem test_LW5 : -- LD (0xDFFF),SP
    after { base with cpu.sp := 0x1234 } [0x08, 0xFF, 0xDF] [0xC000, 0xDFFF, 0xE000] =
      [0x0000, 0x0000, 0x0000, 0x0000, 0x1234, 0x0103, 20, 0x12, 0x34, 0x12] := by decide
theorem test_LW6 : -- LD SP,HL
    after { base with cpu.h := 0xCF, cpu.l := 0xF0, cpu.flags := .ofByte 0xF0 } [0xF9] [] =
      [0x00F0, 0x0000, 0x0000, 0xCFF0, 0xCFF0, 0x0101, 8] := by decide
theorem test_LW10 : -- LD HL,SP-1
    after { base with cpu.sp := 0x0001 } [0xF8, 0xFF] [] =
      [0x0030, 0x0000, 0x0000, 0x0000, 0x0001, 0x0102, 12] := by decide
theorem test_LW11 : -- LD HL,SP-128
    after { base with cpu.sp := 0x0080 } [0xF8, 0x80] [] =
      [0x0010, 0x0000, 0x0000, 0x0000, 0x0080, 0x0102, 12] := by decide
theorem test_LW15 : -- PUSH BC
    after { base with cpu.b := 0x12, cpu.c := 0x34, cpu.sp := 0xD000 } [0xC5] [0xCFFE, 0xCFFF] =
      [0x0000, 0x1234, 0x0000, 0x0000, 0xCFFE, 0x0101, 16, 0x34, 0x12] := by decide
theorem test_LW16 : -- PUSH HL
    after { base with cpu.h := 0xAB, cpu.l := 0xCD, cpu.sp := 0x0001 } [0xE5] [0xFFFF] =
      [0x0000, 0x0000, 0x0000, 0xABCD, 0xFFFF, 0x0101, 16, 0xCD] := by decide
theorem test_LW17 : -- PUSH AF
    after { base with cpu.a := 0x9A, cpu.flags := .ofByte 0xB0, cpu.sp := 0xD000 } [0xF5] [0xCFFE, 0xCFFF] =
      [0x9AB0, 0x0000, 0x0000, 0x0000, 0xCFFE, 0x0101, 16, 0xB0, 0x9A] := by decide
theorem test_LW18 : -- POP DE
    after { base with cpu.sp := 0xCFFE, mem := [(0xCFFE, 0x78), (0xCFFF, 0x56)] } [0xD1] [] =
      [0x0000, 0x0000, 0x5678, 0x0000, 0xD000, 0x0101, 12] := by decide
theorem test_LW19 : -- POP AF
    after { base with cpu.sp := 0xCFFE, mem := [(0xCFFE, 0xFF), (0xCFFF, 0x12)] } [0xF1] [] =
      [0x12F0, 0x0000, 0x0000, 0x0000, 0xD000, 0x0101, 12] := by decide
theorem test_LW20 : -- POP AF
    after { base with cpu.flags := .ofByte 0xF0, cpu.sp := 0xCFFE, mem := [(0xCFFE, 0x0F)] } [0xF1] [] =
      [0x0000, 0x0000, 0x0000, 0x0000, 0xD000, 0x0101, 12] := by decide
theorem test_AL1 : -- ADD A,B
    after { base with cpu.a := 0x3A, cpu.b := 0xC6 } [0x80] [] =
      [0x00B0, 0xC600, 0x0000, 0x0000, 0xFFFE, 0x0101, 4] := by decide
theorem test_AL4 : -- ADD A,0xFF
    after { base with cpu.a := 0x01, cpu.flags := .ofByte 0x40 } [0xC6, 0xFF] [] =
      [0x00B0, 0x0000, 0x0000, 0x0000, 0xFFFE, 0x0102, 8] := by decide
theorem test_AL5 : -- ADD A,(HL)
    after { base with cpu.a := 0x10, cpu.h := 0xC0, mem := [(0xC000, 0x22)] } [0x86] [] =
      [0x3200, 0x0000, 0x0000, 0xC000, 0xFFFE, 0x0101, 8] := by decide
theorem test_AL6 : -- ADC A,C
    after { base with cpu.a := 0xE1, cpu.c := 0x0F, cpu.flags := .ofByte 0x10 } [0x89] [] =
      [0xF120, 0x000F, 0x0000, 0x0000, 0xFFFE, 0x0101, 4] := by decide
theorem test_AL9 : -- ADC A,D
    after { base with cpu.a := 0x0F, cpu.flags := .ofByte 0x10 } [0x8A] [] =
      [0x1020, 0x0000, 0x0000, 0x0000, 0xFFFE, 0x0101, 4] := by decide
theorem test_AL10 : -- SUB A,D
    after { base with cpu.a := 0x3E, cpu.d := 0x3E } [0x92] [] =
      [0x00C0, 0x0000, 0x3E00, 0x0000, 0xFFFE, 0x0101, 4] := by decide
theorem test_AL13 : -- SUB A,0x01
    after base [0xD6, 0x01] [] = [0xFF70, 0x0000, 0x0000, 0x0000, 0xFFFE, 0x0102, 8] := by decide
theorem test_AL15 : -- SBC A,E
    after { base with cpu.e := 0xFF, cpu.flags := .ofByte 0x10 } [0x9B] [] =
      [0x00F0, 0x0000, 0x00FF, 0x0000, 0xFFFE, 0x0101, 4] := by decide
theorem test_AL16 : -- SBC A,E
    after { base with cpu.a := 0x10, cpu.e := 0x0F, cpu.flags := .ofByte 0x10 } [0x9B] [] =
      [0x00E0, 0x0000, 0x000F, 0x0000, 0xFFFE, 0x0101, 4] := by decide
theorem test_AL18 : -- AND A,H
    after { base with cpu.a := 0x5A, cpu.h := 0x3F, cpu.flags := .ofByte 0x50 } [0xA4] [] =
      [0x1A20, 0x0000, 0x0000, 0x3F00, 0xFFFE, 0x0101, 4] := by decide
theorem test_AL20 : -- XOR A,A
    after { base with cpu.a := 0x7C, cpu.flags := .ofByte 0xF0 } [0xAF] [] =
      [0x0080, 0x0000, 0x0000, 0x0000, 0xFFFE, 0x0101, 4] := by decide
theorem test_AL23 : -- OR A,0x5A
    after { base with cpu.a := 0x0F } [0xF6, 0x5A] [] = [0x5F00, 0x0000, 0x0000, 0x0000, 0xFFFE, 0x0102, 8] := by decide
theorem test_AL25 : -- CP A,B
    after { base with cpu.a := 0x3C, cpu.b := 0x2F } [0xB8] [] =
      [0x3C60, 0x2F00, 0x0000, 0x0000, 0xFFFE, 0x0101, 4] := by decide
theorem test_AL26 : -- CP A,0x40
    after { base with cpu.a := 0x3C } [0xFE, 0x40] [] = [0x3C50, 0x0000, 0x0000, 0x0000, 0xFFFE, 0x0102, 8] := by decide
theorem test_AL27 : -- INC B
    after { base with cpu.b := 0xFF, cpu.flags := .ofByte 0x10 } [0x04] [] =
      [0x00B0, 0x0000, 0x0000, 0x0000, 0xFFFE, 0x0101, 4] := by decide
theorem test_AL30 : -- INC (HL)
    after { base with cpu.h := 0xC0, cpu.l := 0x50, mem := [(0xC050, 0xFF)] } [0x34] [0xC050] =
      [0x00A0, 0x0000, 0x0000, 0xC050, 0xFFFE, 0x0101, 12, 0x00] := by decide
theorem test_AL32 : -- DEC C
    after base [0x0D] [] = [0x0060, 0x00FF, 0x0000, 0x0000, 0xFFFE, 0x0101, 4] := by decide
theorem test_AL34 : -- DEC (HL)
    after { base with cpu.h := 0xC0, cpu.l := 0x51, mem := [(0xC051, 0x01)] } [0x35] [0xC051] =
      [0x00C0, 0x0000, 0x0000, 0xC051, 0xFFFE, 0x0101, 12, 0x00] := by decide
theorem test_AL35 : -- CPL
    after { base with cpu.a := 0x35, cpu.flags := .ofByte 0x90 } [0x2F] [] =
      [0xCAF0, 0x0000, 0x0000, 0x0000, 0xFFFE, 0x0101, 4] := by decide
theorem test_AL36 : -- SCF
    after { base with cpu.flags := .ofByte 0xE0 } [0x37] [] =
      [0x0090, 0x0000, 0x0000, 0x0000, 0xFFFE, 0x0101, 4] := by decide
theorem test_AL37 : -- CCF
    after { base with cpu.flags := .ofByte 0xF0 } [0x3F] [] =
      [0x0080, 0x0000, 0x0000, 0x0000, 0xFFFE, 0x0101, 4] := by decide
theorem test_AW1 : -- ADD HL,BC
    after { base with cpu.b := 0x06, cpu.c := 0x05, cpu.h := 0x8A, cpu.l := 0x23, cpu.flags := .ofByte 0x80 } [0x09] [] =
      [0x00A0, 0x0605, 0x0000, 0x9028, 0xFFFE, 0x0101, 8] := by decide
theorem test_AW4 : -- ADD HL,SP
    after { base with cpu.h := 0xFF, cpu.l := 0xFF, cpu.sp := 0x0001 } [0x39] [] =
      [0x0030, 0x0000, 0x0000, 0x0000, 0x0001, 0x0101, 8] := by decide
theorem test_AW5 : -- ADD HL,BC
    after { base with cpu.c := 0x01, cpu.l := 0xFF, cpu.flags := .ofByte 0x30 } [0x09] [] =
      [0x0000, 0x0001, 0x0000, 0x0100, 0xFFFE, 0x0101, 8] := by decide
theorem test_AW7 : -- INC SP
    after { base with cpu.flags := .ofByte 0xF0, cpu.sp := 0xFFFF } [0x33] [] =
      [0x00F0, 0x0000, 0x0000, 0x0000, 0x0000, 0x0101, 8] := by decide
theorem test_AW9 : -- DEC DE
    after { base with cpu.flags := .ofByte 0xF0 } [0x1B] [] =
      [0x00F0, 0x0000, 0xFFFF, 0x0000, 0xFFFE, 0x0101, 8] := by decide
theorem test_AW14 : -- ADD SP,-1
    after { base with cpu.sp := 0xD000 } [0xE8, 0xFF] [] =
      [0x0000, 0x0000, 0x0000, 0x0000, 0xCFFF, 0x0102, 16] := by decide
theorem test_AW15 : -- ADD SP,-1
    after { base with cpu.sp := 0xD001 } [0xE8, 0xFF] [] =
      [0x0030, 0x0000, 0x0000, 0x0000, 0xD000, 0x0102, 16] := by decide
theorem test_AW16 : -- ADD SP,-16
    after { base with cpu.sp := 0xD0F0 } [0xE8, 0xF0] [] =
      [0x0010, 0x0000, 0x0000, 0x0000, 0xD0E0, 0x0102, 16] := by decide
theorem test_RS1 : -- RLCA
    after { base with cpu.a := 0x85 } [0x07] [] = [0x0B10, 0x0000, 0x0000, 0x0000, 0xFFFE, 0x0101, 4] := by decide
theorem test_RS2 : -- RLCA
    after { base with cpu.flags := .ofByte 0xF0 } [0x07] [] =
      [0x0000, 0x0000, 0x0000, 0x0000, 0xFFFE, 0x0101, 4] := by decide
theorem test_RS3 : -- RRCA
    after { base with cpu.a := 0x3B } [0x0F] [] = [0x9D10, 0x0000, 0x0000, 0x0000, 0xFFFE, 0x0101, 4] := by decide
theorem test_RS4 : -- RLA
    after { base with cpu.a := 0x95, cpu.flags := .ofByte 0x10 } [0x17] [] =
      [0x2B10, 0x0000, 0x0000, 0x0000, 0xFFFE, 0x0101, 4] := by decide
theorem test_RS7 : -- RRA
    after { base with cpu.flags := .ofByte 0x10 } [0x1F] [] =
      [0x8000, 0x0000, 0x0000, 0x0000, 0xFFFE, 0x0101, 4] := by decide
theorem test_RS9 : -- RLC A
    after { base with cpu.flags := .ofByte 0x10 } [0xCB, 0x07] [] =
      [0x0080, 0x0000, 0x0000, 0x0000, 0xFFFE, 0x0102, 8] := by decide
theorem test_RS10 : -- RLC (HL)
    after { base with cpu.h := 0xC0, mem := [(0xC000, 0x80)] } [0xCB, 0x06] [0xC000] =
      [0x0010, 0x0000, 0x0000, 0xC000, 0xFFFE, 0x0102, 16, 0x01] := by decide
theorem test_RS11 : -- RRC C
    after { base with cpu.c := 0x01 } [0xCB, 0x09] [] = [0x0010, 0x0080, 0x0000, 0x0000, 0xFFFE, 0x0102, 8] := by decide
theorem test_RS13 : -- RL D
    after { base with cpu.d := 0x11, cpu.flags := .ofByte 0x10 } [0xCB, 0x12] [] =
      [0x0000, 0x0000, 0x2300, 0x0000, 0xFFFE, 0x0102, 8] := by decide
theorem test_RS15 : -- RR A
    after { base with cpu.a := 0x8A, cpu.flags := .ofByte 0x10 } [0xCB, 0x1F] [] =
      [0xC500, 0x0000, 0x0000, 0x0000, 0xFFFE, 0x0102, 8] := by decide
theorem test_RS17 : -- SLA H
    after { base with cpu.h := 0xFF, cpu.flags := .ofByte 0x10 } [0xCB, 0x24] [] =
      [0x0010, 0x0000, 0x0000, 0xFE00, 0xFFFE, 0x0102, 8] := by decide
theorem test_RS18 : -- SRA L
    after { base with cpu.l := 0x8A } [0xCB, 0x2D] [] = [0x0000, 0x0000, 0x0000, 0x00C5, 0xFFFE, 0x0102, 8] := by decide
theorem test_RS20 : -- SWAP A
    after { base with cpu.a := 0xF1, cpu.flags := .ofByte 0xF0 } [0xCB, 0x37] [] =
      [0x1F00, 0x0000, 0x0000, 0x0000, 0xFFFE, 0x0102, 8] := by decide
theorem test_RS22 : -- SRL A
    after { base with cpu.a := 0x01 } [0xCB, 0x3F] [] = [0x0090, 0x0000, 0x0000, 0x0000, 0xFFFE, 0x0102, 8] := by decide
theorem test_RS25 : -- BIT 7,H
    after { base with cpu.h := 0x80, cpu.flags := .ofByte 0x50 } [0xCB, 0x7C] [] =
      [0x0030, 0x0000, 0x0000, 0x8000, 0xFFFE, 0x0102, 8] := by decide
theorem test_RS28 : -- BIT 3,(HL)
    after { base with cpu.h := 0xC0, cpu.l := 0x02, mem := [(0xC002, 0x08)] } [0xCB, 0x5E] [] =
      [0x0020, 0x0000, 0x0000, 0xC002, 0xFFFE, 0x0102, 12] := by decide
theorem test_RS29 : -- RES 0,A
    after { base with cpu.a := 0xFF, cpu.flags := .ofByte 0xF0 } [0xCB, 0x87] [] =
      [0xFEF0, 0x0000, 0x0000, 0x0000, 0xFFFE, 0x0102, 8] := by decide
theorem test_RS30 : -- RES 7,(HL)
    after { base with cpu.h := 0xC0, cpu.l := 0x03, mem := [(0xC003, 0xFF)] } [0xCB, 0xBE] [0xC003] =
      [0x0000, 0x0000, 0x0000, 0xC003, 0xFFFE, 0x0102, 16, 0x7F] := by decide
theorem test_RS31 : -- SET 4,B
    after base [0xCB, 0xE0] [] = [0x0000, 0x1000, 0x0000, 0x0000, 0xFFFE, 0x0102, 8] := by decide
theorem test_RS32 : -- SET 0,(HL)
    after { base with cpu.h := 0xC0, cpu.l := 0x04, mem := [(0xC004, 0x10)] } [0xCB, 0xC6] [0xC004] =
      [0x0000, 0x0000, 0x0000, 0xC004, 0xFFFE, 0x0102, 16, 0x11] := by decide
theorem test_CF1 : -- JP 0x0150
    after { base with cpu.flags := .ofByte 0xF0 } [0xC3, 0x50, 0x01] [] =
      [0x00F0, 0x0000, 0x0000, 0x0000, 0xFFFE, 0x0150, 16] := by decide
theorem test_CF2 : -- JP NZ,0x8000
    after base [0xC2, 0x00, 0x80] [] = [0x0000, 0x0000, 0x0000, 0x0000, 0xFFFE, 0x8000, 16] := by decide
theorem test_CF3 : -- JP NZ,0x8000
    after { base with cpu.flags := .ofByte 0x80 } [0xC2, 0x00, 0x80] [] =
      [0x0080, 0x0000, 0x0000, 0x0000, 0xFFFE, 0x0103, 12] := by decide
theorem test_CF5 : -- JP HL
    after { base with cpu.h := 0xC0 } [0xE9] [] = [0x0000, 0x0000, 0x0000, 0xC000, 0xFFFE, 0xC000, 4] := by decide
theorem test_CF7 : -- JR -2
    after base [0x18, 0xFE] [] = [0x0000, 0x0000, 0x0000, 0x0000, 0xFFFE, 0x0100, 12] := by decide
theorem test_CF9 : -- JR 127
    after base [0x18, 0x7F] [] = [0x0000, 0x0000, 0x0000, 0x0000, 0xFFFE, 0x0181, 12] := by decide
theorem test_CF10 : -- JR Z,-5
    after { base with cpu.flags := .ofByte 0x80 } [0x28, 0xFB] [] =
      [0x0080, 0x0000, 0x0000, 0x0000, 0xFFFE, 0x00FD, 12] := by decide
theorem test_CF11 : -- JR Z,-5
    after base [0x28, 0xFB] [] = [0x0000, 0x0000, 0x0000, 0x0000, 0xFFFE, 0x0102, 8] := by decide
theorem test_CF14 : -- CALL 0x0200
    after { base with cpu.sp := 0xD000 } [0xCD, 0x00, 0x02] [0xCFFE, 0xCFFF] =
      [0x0000, 0x0000, 0x0000, 0x0000, 0xCFFE, 0x0200, 24, 0x03, 0x01] := by decide
theorem test_CF15 : -- CALL Z,0x0200
    after { base with cpu.flags := .ofByte 0x80, cpu.sp := 0xD000 } [0xCC, 0x00, 0x02] [0xCFFE, 0xCFFF] =
      [0x0080, 0x0000, 0x0000, 0x0000, 0xCFFE, 0x0200, 24, 0x03, 0x01] := by decide
theorem test_CF16 : -- CALL Z,0x0200
    after { base with cpu.sp := 0xD000 } [0xCC, 0x00, 0x02] [] =
      [0x0000, 0x0000, 0x0000, 0x0000, 0xD000, 0x0103, 12] := by decide
theorem test_CF17 : -- RET
    after { base with cpu.sp := 0xCFFE, mem := [(0xCFFE, 0x53), (0xCFFF, 0x01)] } [0xC9] [] =
      [0x0000, 0x0000, 0x0000, 0x0000, 0xD000, 0x0153, 16] := by decide
theorem test_CF18 : -- RET NC
    after { base with cpu.sp := 0xCFFE, mem := [(0xCFFE, 0x53), (0xCFFF, 0x01)] } [0xD0] [] =
      [0x0000, 0x0000, 0x0000, 0x0000, 0xD000, 0x0153, 20] := by decide
theorem test_CF19 : -- RET NC
    after { base with cpu.flags := .ofByte 0x10, cpu.sp := 0xCFFE, mem := [(0xCFFE, 0x53), (0xCFFF, 0x01)] } [0xD0] [] =
      [0x0010, 0x0000, 0x0000, 0x0000, 0xCFFE, 0x0101, 8] := by decide
theorem test_CF20 : -- RETI
    after { base with cpu.sp := 0xCFFE, mem := [(0xCFFE, 0x34), (0xCFFF, 0x12)] } [0xD9] [] =
      [0x0000, 0x0000, 0x0000, 0x0000, 0xD000, 0x1234, 16] := by decide
theorem test_CF21 : -- RST 0x28
    after { base with cpu.sp := 0xD000 } [0xEF] [0xCFFE, 0xCFFF] =
      [0x0000, 0x0000, 0x0000, 0x0000, 0xCFFE, 0x0028, 16, 0x01, 0x01] := by decide
theorem test_CC1 : -- NOP
    after { base with cpu.flags := .ofByte 0xF0 } [0x00] [] =
      [0x00F0, 0x0000, 0x0000, 0x0000, 0xFFFE, 0x0101, 4] := by decide
theorem test_CC2 : -- DI
    after { base with cpu.ime := true } [0xF3] [] = [0x0000, 0x0000, 0x0000, 0x0000, 0xFFFE, 0x0101, 4] := by decide
theorem test_CC3 : -- EI
    after base [0xFB] [] = [0x0000, 0x0000, 0x0000, 0x0000, 0xFFFE, 0x0101, 4] := by decide
theorem test_CC4 : -- HALT
    after { base with cpu.ime := true } [0x76] [] = [0x0000, 0x0000, 0x0000, 0x0000, 0xFFFE, 0x0101, 4] := by decide
theorem test_CC5 : -- HALT
    after { base with irq.ifr := 4, irq.ie := 4 } [0x76] [] =
      [0x0000, 0x0000, 0x0000, 0x0000, 0xFFFE, 0x0101, 4] := by decide
theorem test_CC6 : -- STOP
    after base [0x10, 0x00] [] = [0x0000, 0x0000, 0x0000, 0x0000, 0xFFFE, 0x0102, 4] := by decide
theorem test_CC7 : -- (undefined)
    after base [0xDD] [] = [0x0000, 0x0000, 0x0000, 0x0000, 0xFFFE, 0x0101, 4] := by decide

theorem test_CC_control_bits :
    goesTo (coded base [0xFB]) (fun t => decide (t.cpu.ime = false ∧ t.cpu.imeEnableAfter = .nextInstruction)) = true ∧
      goesTo (coded { base with cpu.ime := true } [0x76]) (fun t => t.cpu.halt && !t.cpu.haltBug) = true ∧
      goesTo (coded { base with irq := ⟨4, 4⟩ } [0x76]) (fun t => !t.cpu.halt && t.cpu.haltBug) = true ∧
      goesTo (coded base [0x10, 0x00]) (fun t => t.cpu.stop) = true ∧
      goesTo (coded base [0xDD]) (fun t => t.cpu.lock) = true ∧
      goesTo (coded { base with cpu.sp := 0xCFFE } [0xD9]) (fun t => t.cpu.ime) = true := by decide

theorem test_DA3 : daaFlags 0x9A (.ofByte 0x00) = (0x00, .ofByte 0x90) := by decide
theorem test_DA12 : daaFlags 0x0F (.ofByte 0x60) = (0x09, .ofByte 0x40) := by decide
theorem test_DA13 : daaFlags 0xFE (.ofByte 0x70) = (0x98, .ofByte 0x50) := by decide

/-! ### Interrupts, the HALT bug, STOP: single steps of vectors I1 to I17 -/

theorem test_I1_service :
    view [0xCFFE, 0xCFFF, 0xFF0F] (step { base with cpu.ime := true, cpu.sp := 0xD000, irq := ⟨0x01, 0x01⟩ }) =
      [0, 0, 0, 0, 0xCFFE, 0x0040, 20, 0x00, 0x01, 0xE0] := by decide

theorem test_I3_disabled_source_passed_over :
    view [0xFF0F] (step { base with cpu.ime := true, cpu.sp := 0xD000, irq := ⟨0x05, 0x04⟩ }) =
      [0, 0, 0, 0, 0xCFFE, 0x0050, 20, 0xE1] := by decide

theorem test_I13_halt_bug_repeats_the_byte :
    after { base with cpu.haltBug := true, cpu.pc := 0x0101 } [0x3E, 0x14] [] =
      [0x3E00, 0, 0, 0, 0xFFFE, 0x0102, 8] := by decide

theorem test_I15_joypad_ends_stop :
    view [0xFF0F] (step (coded { base with cpu.stop := true, extIrq := [⟨false, true⟩] } [0x3C])) =
      [0x0100, 0, 0, 0, 0xFFFE, 0x0101, 4, 0xF0] ∧
      view [0xFF0F] (step (coded { base with cpu.stop := true, extIrq := [⟨true, false⟩] } [0x3C])) =
        [0, 0, 0, 0, 0xFFFE, 0x0100, 4, 0xE8] := by decide

theorem test_I16_locked_cpu_idles :
    view [0xFF0F] (step { base with cpu.lock := true, cpu.ime := true, irq := ⟨0, 0x10⟩, extIrq := [⟨false, true⟩] }) =
      [0, 0, 0, 0, 0xFFFE, 0x0100, 4, 0xF0] := by decide

theorem test_I17_push_lands_on_IE :
    view [0xFFFF] (step { base with cpu.ime := true, cpu.sp := 1, cpu.pc := 0x0134, irq := ⟨0x01, 0x01⟩ }) =
      [0, 0, 0, 0, 0xFFFF, 0x0040, 20, 0x34] := by decide

/-! ### Timer and PPU: vectors T4, U3, U4, U5 and G -/

/-- The timer of vector T4. -/
def overflowing : Timer := { div := 0x000E, tima := 0xFF, tma := 0x80, tac := 5, reload := 0 }

theorem test_T4_overflow :
    Timer.ticks 2 overflowing = { overflowing with div := 0x0010, tima := 0x00, reload := 4 } ∧
      Timer.ticks 6 overflowing = { overflowing with div := 0x0014, tima := 0x80 } ∧
      (Timer.ticks 5 overflowing).tick.2 = 0b00100 := by decide

theorem test_U3_lcd_on : (base.write 0xFF40 0x91).read 0xFF41 = 0x86 := by decide

theorem test_U4_lyc :
    let s := { base with ppu.lcdc := 0x91, ppu.ly := 3, ppu.mode := .oamScan, ppu.statEn := 0b1000 }
    (s.write 0xFF45 3).read 0xFF41 = 0xC6 ∧ (s.write 0xFF45 3).read 0xFF0F = 0xE2 := by decide

theorem test_U5_stat_mask : (base.write 0xFF41 0xFF).readIo 0xFF41 = 0xF8 := by decide

/-- VRAM and a sprite of vector G18, with its palettes. -/
def picture : Memory :=
  [(0x8010, 0x3C), (0x8011, 0x7E), (0x8020, 0xF0), (0x9800, 0x01), (0xFE00, 16), (0xFE01, 14), (0xFE02, 2),
    (0xFE03, 0x10), (0xFE04, 16), (0xFE05, 12), (0xFE06, 2)]

theorem test_G18_pixels :
    let p := { base.ppu with lcdc := 0x93, bgp := 0xE4, obp0 := 0xE4, obp1 := 0x1B }
    ([0, 1, 3, 4, 7, 8, 9, 10].map fun x => (p.pixel picture (p.lineSprites picture 0) x 0).toNat) =
      [0, 2, 3, 1, 1, 2, 2, 0] := by decide +kernel

/-! ### Bus and cartridge: vectors M and C -/

theorem test_M1_echo : (base.write 0xC123 0x5A).read 0xE123 = 0x5A ∧ (base.write 0xFDFF 0xA5).read 0xDDFF = 0xA5 := by
  decide

theorem test_M2_unusable : (base.write 0xFEA0 0x12).read 0xFEA0 = 0xFF := by decide

theorem test_M5_interrupt_flag : (base.write 0xFF0F 0xFF).irq.ifr = 0x1F ∧ base.read 0xFF0F = 0xE0 := by decide

theorem test_M6_tac : (base.write 0xFF07 0x02).read 0xFF07 = 0xFA := by decide

theorem test_M9_no_external_ram : (base.write 0xA000 0x12).read 0xA000 = 0xFF := by decide

theorem test_M12_dma_of_oam : (({ base with mem := [(0xFE01, 4)] } : State).write 0xFF46 0xFE).read 0xFE01 = 4 := by
  decide +kernel

/-- RAM and clock all zero at power-on. -/
def zeroed : PowerOn where
  ram _ := 0
  extRam _ := 0
  rtcLive := ⟨0, 0, 0, 0, 0⟩
  rtcLatched := ⟨0, 0, 0, 0, 0⟩

/-- A state with a cartridge of 32 banks and `ram` bytes of external RAM. -/
def withCart (mbc : Mbc) (ram : Nat) : State :=
  { base with cart := { rom := [(0x4000, 1), (0x8000, 2), (0xC000, 3)], romLen := 0x80000, extRam := [], extRamLen := ram,
                        rumbleCart := false, mbc := mbc } }

def onMbc1 : State := withCart (Cartridge.initialMbc zeroed .mbc1) 0x8000
def onMbc2 : State := withCart (Cartridge.initialMbc zeroed .mbc2) 0x200
def onMbc3 : State := withCart (Cartridge.initialMbc zeroed .mbc3) 0x8000
def onMbc5 : State := withCart (Cartridge.initialMbc zeroed .mbc5) 0x8000

theorem test_C1_ram_enable :
    let s := (onMbc1.write 0x0000 0x0A).write 0xA000 0x42
    onMbc1.read 0xA000 = 0xFF ∧ s.read 0xA000 = 0x42 ∧ (s.write 0x0000 0x00).read 0xA000 = 0xFF := by decide

theorem test_C4_zero_selects_one : (onMbc1.write 0x2000 0x60).read 0x4000 = 1 := by decide

theorem test_C6_bank_beyond_image : ((onMbc1.write 0x4000 1).write 0x2000 3).read 0x4000 = 3 := by decide

theorem test_mbc2_half_bytes : ((onMbc2.write 0x0000 0x0A).write 0xA200 0xF7).read 0xA000 = 0x07 := by decide

theorem test_mbc5_bank_zero : (onMbc5.write 0x2000 0x00).read 0x4000 = 0 := by decide

/-! ### Witnesses: states and operands that meet the hypotheses of an obligation together -/

theorem witness_EightBitLoads : R8.b ≠ .indHL ∧ R8.a ≠ .indHL := by decide

theorem witness_CpuControl_halts :
    (let s := { base with irq := ⟨1, 1⟩ };
      s.cpu.ime = false ∧ s.irq.ifr &&& s.irq.ie.extractLsb' 0 5 ≠ 0 ∧ s.params.haltBug = true) ∧
      (let s := { base with irq := ⟨1, 1⟩, params.haltBug := false };
        s.cpu.ime = false ∧ s.irq.ifr &&& s.irq.ie.extractLsb' 0 5 ≠ 0 ∧ s.params.haltBug = false) ∧
      (¬ (base.cpu.ime = false ∧ base.irq.ifr &&& base.irq.ie.extractLsb' 0 5 ≠ 0)) := by decide

theorem witness_UndefinedOpcodes : Instr.illegal_D3 ∈ [Instr.illegal_D3, .illegal_FD] ∧ (0xFD : Byte) ∈ [0xD3#8, 0xFD] := by
  decide

theorem witness_StoresAreTheFrame :
    (∀ s, ∃ t, exec .push_BC s = .next t) ∧ Instr.push_BC.stores base = [0xFFFC, 0xFFFD] ∧
      touches 0xFFFC 0xFFFE = false ∧ touches 0xFFFD 0xFFFE = false ∧
      (∀ s, ∃ t, exec .pop_AF s = .next t) ∧ Instr.pop_AF.stores base = [] :=
  ⟨fun _ => ⟨_, rfl⟩, rfl, by decide, by decide, fun _ => ⟨_, rfl⟩, rfl⟩

theorem witness_FlagsLeftAlone :
    (∀ s, ∃ t, exec .ld_B_C s = .next t) ∧ .ld_B_C = Row.ld .b .c ∧ (∀ s, ∃ t, exec .pop_HL s = .next t) ∧
      R16Stk.hl ≠ .af ∧ .pop_HL = Row.pop .hl ∧ (∀ s, ∃ t, exec .reti s = .next t) ∧ Instr.reti ∈ [Instr.reti, .ei] :=
  ⟨fun _ => ⟨_, rfl⟩, rfl, fun _ => ⟨_, rfl⟩, by decide, rfl, fun _ => ⟨_, rfl⟩, by decide⟩

theorem witness_DecodeOfEncode : (Instr.ld_ia16_SP 0xC200).wellFormed = true := by decide

/-- The last address of each clause of the address map, and the state of each arm of rule R88. -/
theorem witness_AddressMap :
    ((0x7FFF : Addr).toNat < 0x8000 ∧ 0x8000 ≤ (0x9FFF : Addr).toNat ∧ (0x9FFF : Addr).toNat < 0xA000 ∧
      0xA000 ≤ (0xBFFF : Addr).toNat ∧ (0xBFFF : Addr).toNat < 0xC000 ∧ 0xC000 ≤ (0xDFFF : Addr).toNat ∧
      (0xDFFF : Addr).toNat < 0xE000 ∧ 0xE000 ≤ (0xFDFF : Addr).toNat ∧ (0xFDFF : Addr).toNat < 0xFE00 ∧
      0xFE00 ≤ (0xFE9F : Addr).toNat ∧ (0xFE9F : Addr).toNat < 0xFEA0 ∧ 0xFEA0 ≤ (0xFEFF : Addr).toNat ∧
      (0xFEFF : Addr).toNat < 0xFF00 ∧ 0xFF00 ≤ (0xFF7F : Addr).toNat ∧ (0xFF7F : Addr).toNat < 0xFF80 ∧
      0xFF80 ≤ (0xFFFE : Addr).toNat ∧ (0xFFFE : Addr).toNat < 0xFFFF ∧ (0xFFFF : Addr).toNat = 0xFFFF) ∧
      let s := { base with params.ppuAccessRestrict := true, ppu.lcdc := 0x80, ppu.mode := .draw }
      s.params.ppuAccessRestrict = true ∧ s.ppu.lcdOn = true ∧ s.ppu.mode = .draw := by decide

theorem witness_MemoryAndEcho :
    Memory.wf [(0xC000, 1), (0xFF80, 2)] = true ∧ 0xE000 ≤ (0xE000 : Addr).toNat ∧ (0xE000 : Addr).toNat < 0xFE00 := by
  decide

theorem witness_StatelessIoAddresses :
    (0xFF08 ≤ (0xFF0E : Addr).toNat ∧ (0xFF0E : Addr).toNat ≤ 0xFF0E) ∧
      (0xFF71 ≤ (0xFF7F : Addr).toNat ∧ (0xFF7F : Addr).toNat ≤ 0xFF7F) ∧
      (0xFF10 ≤ (0xFF3F : Addr).toNat ∧ (0xFF3F : Addr).toNat ≤ 0xFF3F) := by decide

theorem witness_OamDma :
    159 < 160 ∧ ¬ (0xFE00 ≤ (0xFEA0 : Addr).toNat ∧ (0xFEA0 : Addr).toNat < 0xFEA0) ∧ (0xFEA0 : Addr) ≠ 0xFF46 := by
  decide

theorem witness_KindNoneAndMbc2Banking :
    (base.cart.mbc = .none ∧ 0x8000 ≤ base.cart.romLen ∧ base.cart.extRamLen = 0) ∧
      ((withCart .none 0x2000).cart.mbc = .none ∧ (withCart .none 0x2000).cart.extRamLen ≠ 0) ∧
      ∃ m, onMbc2.cart.mbc = .mbc2 m ∧ onMbc2.cart.extRamLen = 0x200 ∧ (0x3FFF : Addr).toNat / 256 % 2 = 1 ∧
        (0x3EFF : Addr).toNat / 256 % 2 = 0 ∧ (0x3FFF : Addr).toNat < 0x4000 ∧ m.ramEnable = false :=
  ⟨by decide, by decide, _, rfl, by decide⟩

theorem witness_Mbc1Banking :
    ∃ m, onMbc1.cart.mbc = .mbc1 m ∧ (0x1FFF : Addr).toNat < 0x2000 ∧
      (0x2000 ≤ (0x3FFF : Addr).toNat ∧ (0x3FFF : Addr).toNat < 0x4000) ∧
      (0x4000 ≤ (0x5FFF : Addr).toNat ∧ (0x5FFF : Addr).toNat < 0x6000) ∧
      (0x6000 ≤ (0x7FFF : Addr).toNat ∧ (0x7FFF : Addr).toNat < 0x8000) ∧
      (0xA000 ≤ (0xBFFF : Addr).toNat ∧ (0xBFFF : Addr).toNat < 0xC000) := ⟨_, rfl, by decide⟩

theorem witness_Mbc3Banking : ∃ m, onMbc3.cart.mbc = .mbc3 m ∧ m.ramBank.toNat ≤ 3 ∧ onMbc3.cart.extRamLen ≠ 0 :=
  ⟨_, rfl, by decide⟩

theorem witness_Mbc3Banking_clock :
    ∃ m, (onMbc3.write 0x4000 0x0C).cart.mbc = .mbc3 m ∧ ¬ m.ramBank.toNat ≤ 3 ∧ m.ramBank = 0x0C ∧
      (0xB000 : Addr).toNat < 0xC000 := ⟨_, rfl, by decide⟩

theorem witness_Mbc5Banking :
    ∃ m, onMbc5.cart.mbc = .mbc5 m ∧ (0x2000 ≤ (0x2FFF : Addr).toNat ∧ (0x2FFF : Addr).toNat < 0x3000) ∧
      (0x3000 ≤ (0x3000 : Addr).toNat ∧ (0x3000 : Addr).toNat < 0x4000) := ⟨_, rfl, by decide⟩

/-- RAM and clock contents at power-on: each byte of RAM holds its address's low byte, each of external RAM its index. -/
def poweredOn : PowerOn where
  ram := BitVec.ofNat 8
  extRam := BitVec.ofNat 8
  rtcLive := ⟨1, 2, 3, 4, 5⟩
  rtcLatched := ⟨6, 7, 8, 9, 10⟩

theorem witness_Construction :
    (0x4000 : Nat) < 0x8000 ∧ ¬ (0x8000 % 0x4000 ≠ 0 ∨ 0x8000 < 0x8000) ∧
      0x8000 ≠ Cartridge.romLenOfCode (Store.get [(0x148, 1)] 0x148) ∧
      Cartridge.typeRow (Store.get [(0x147, 0x04)] 0x147) = none ∧ Memory.wf [(0x147, 0x01)] = true ∧
      ∃ s, State.construct [(0x147, 0x01)] 0x8000 poweredOn = .next s :=
  ⟨by decide, by decide, by decide, by decide, by decide, ⟨_, rfl⟩⟩

/-- The first and last byte of each memory that a built machine has, and the half-bytes of MBC2. -/
theorem witness_Construction_contents :
    [0x8000, 0x9FFF, 0xC000, 0xDFFF, 0xFE00, 0xFE9F, 0xFF80, 0xFFFE].map (Store.get (Memory.initial poweredOn)) =
        [0x00, 0xFF, 0x00, 0xFF, 0x00, 0x9F, 0x80, 0xFE] ∧
      Store.get (Cartridge.initialRam poweredOn .mbc1 0x800) 0x7FF = 0xFF ∧
      Store.get (Cartridge.initialRam poweredOn .mbc2 0x200) 0x1FF = 0x0F := by
  have ram : ∀ i, ownedKey i = true → Store.get (Memory.initial poweredOn) i = BitVec.ofNat 8 i :=
    fun i h => Memory.get_initial poweredOn h
  refine ⟨?_, Cartridge.get_initialRam _ _ (by decide), Cartridge.get_initialRam _ _ (by decide)⟩
  simp only [List.map_cons, List.map_nil]
  rw [ram _ (by decide), ram _ (by decide), ram _ (by decide), ram _ (by decide), ram _ (by decide), ram _ (by decide),
    ram _ (by decide), ram _ (by decide)]
  decide

/-- `State.reset` is the machine that a blank image and zero contents of RAM give. -/
theorem test_reset_is_constructed :
    State.construct [] 0x8000 zeroed = .next State.reset := by
  have run : ∀ i n, Store.fillRun ([] : Memory) i n zeroed.ram = [] := fun i n => Store.fillRun_fill i n
  have ram : Memory.initial zeroed = [] := by simp only [Memory.initial, run]
  have cart : Cartridge.initial zeroed [] 0x8000 ⟨.none, false, false, false, false⟩ 0 = Cartridge.blank := by
    have : Cartridge.initialRam zeroed .none 0 = [] := Store.fillRun_fill 0 0
    unfold Cartridge.initial
    rw [this]
    rfl
  refine (State.construct_of_row zeroed (by decide) (by decide) (row := ⟨.none, false, false, false, false⟩) rfl).trans ?_
  show Host.Outcome.next (State.resetWith (Cartridge.initial zeroed [] 0x8000 ⟨.none, false, false, false, false⟩ 0)
    (Memory.initial zeroed)) = _
  rw [cart, ram]
  rfl

/-- The rows and codes of the clauses on a built machine: MBC2, no RAM, the last good RAM-size code and the first bad one. -/
theorem witness_Construction_rows :
    0x8000 = Cartridge.romLenOfCode (Store.get [(0x147, 0x05)] 0x148) ∧
      (Cartridge.typeRow 0x05).map (fun r => r.kind) = some .mbc2 ∧
      (Cartridge.typeRow 0x1C).map (fun r => (r.ram, r.rumble)) = some (false, true) ∧
      (Cartridge.typeRow 0x1E).map (fun r => (r.ram, r.rumble)) = some (true, true) ∧
      (Store.get ([(0x147, 0x1E), (0x149, 5)] : Memory) 0x149).toNat = 5 ∧
      State.construct [(0x147, 0x1E), (0x149, 6)] 0x8000 poweredOn = .fault .unsupportedCartridge :=
  ⟨by decide, by decide, by decide, by decide, by decide, rfl⟩

/-- An image with both defects (log 22). -/
theorem test_bad_length_is_reported_first :
    State.construct [(0x147, 0x0B)] 0x4000 poweredOn = .fault .invalidRomSize := rfl

theorem witness_StepRunsDecodedInstruction :
    (∃ t, (coded base [0x3E, 0x14]).cpuAction = .execute t ∧
      decide (t.cpu.haltBug = false ∧
        decode [t.read t.cpu.pc, t.read (t.cpu.pc + 1), t.read (t.cpu.pc + 2)] = .ok (.ld_A_n8 0x14, [0x00])) = true) ∧
      ∃ t, (coded { base with cpu.haltBug := true } [0x3E, 0x14]).cpuAction = .execute t ∧
        decide (t.cpu.haltBug = true ∧
          decode [t.read t.cpu.pc, t.read t.cpu.pc, t.read (t.cpu.pc + 1)] = .ok (.ld_A_n8 0x3E, [0x14])) = true :=
  ⟨executing_spec (by decide +kernel), executing_spec (by decide +kernel)⟩

theorem witness_StepPrecedence :
    ({ base with cpu.lock := true } : State).cpu.lock = true ∧
      (let s := { base with cpu.stop := true };
        s.cpu.lock = false ∧ s.cpu.stop = true ∧ s.ext.joypad = false) ∧
      (let s := { base with cpu.stop := true, extIrq := [⟨false, true⟩], cpu.ime := true, irq := ⟨0, 0x10⟩ };
        s.cpu.lock = false ∧ s.ext.joypad = true ∧ s.cpu.ime = true ∧
          (s.irq.ifr ||| 0b10000) &&& s.irq.ie.extractLsb' 0 5 ≠ 0) ∧
      (let s := { base with cpu.halt := true };
        s.cpu.lock = false ∧ s.cpu.stop = false ∧ s.irq.ifr &&& s.irq.ie.extractLsb' 0 5 = 0 ∧ s.cpu.halt = true) ∧
      (let s := { base with cpu.halt := true, irq := ⟨4, 4⟩ };
        s.cpu.lock = false ∧ s.cpu.stop = false ∧ s.cpu.ime = false ∧ s.irq.ifr &&& s.irq.ie.extractLsb' 0 5 ≠ 0) ∧
      (base.cpu.lock = false ∧ base.cpu.stop = false ∧ base.irq.ifr &&& base.irq.ie.extractLsb' 0 5 = 0 ∧
        base.cpu.halt = false) := by decide

theorem witness_ServiceSequence : (0b10000 : BitVec 5) ≠ 0 := by decide

/-- The state of vector I2: Timer and Joypad pending, the stack in work RAM. -/
def twoPending : State := { base with cpu.ime := true, cpu.sp := 0xD000, irq := ⟨0x14, 0x14⟩ }

theorem witness_InterruptIsTaken :
    (twoPending.cpu.lock = false ∧ twoPending.cpu.stop = false ∧ twoPending.cpu.ime = true ∧ twoPending.extIrq = []) ∧
      (twoPending.irq.ifr &&& twoPending.irq.ie.extractLsb' 0 5).getLsbD 2 = true ∧
      (∀ j, j < 2 → (twoPending.irq.ifr &&& twoPending.irq.ie.extractLsb' 0 5).getLsbD j = false) ∧
      isWorkRam (twoPending.cpu.sp - 2) = true ∧ isWorkRam (twoPending.cpu.sp - 1) = true ∧
      ∃ t, step twoPending = .next t ∧ decide (t.cpu.pc = 0x0050) = true :=
  ⟨by decide, by decide, by decide, by decide, by decide, goesTo_spec (by decide)⟩

/-- The code of vector I5: EI, INC A, with VBlank pending. -/
def enabling : State := coded { base with cpu.sp := 0xD000, irq := ⟨1, 1⟩ } [0xFB, 0x3C]

theorem witness_EiTakesEffectOneInstructionLate :
    (∃ u, enabling.cpuAction = .execute u ∧ decide (u.fetched.1 = .ei) = true) ∧ enabling.cpu.ime = false ∧
      enabling.cpu.imeEnableAfter = .none ∧
      ∃ t, step enabling = .next t ∧ goesTo t (fun w => w.cpu.ime && decide (w.cpu.a = 1)) = true :=
  ⟨executing_spec (by decide), by decide, by decide, goesTo_spec (by decide)⟩

theorem witness_EveryStepGoesOn :
    (∃ u, ({ base with cpu.lock := true } : State).cpuAction = .idle u) ∧ ∃ u q, twoPending.cpuAction = .service u q :=
  ⟨⟨_, rfl⟩, ⟨_, _, rfl⟩⟩

theorem base_inv : base.Inv where
  mem := by decide
  owned := by decide
  ppu := ⟨by decide, by decide, by decide, by decide, by decide, by decide⟩
  timer := ⟨by decide, by decide⟩
  cart := ⟨by decide, by decide, by decide, by decide, trivial⟩
  haltBug := by decide

theorem witness_StepKeepsInv : base.Inv ∧ ∃ t, step base = .next t ∧ decide (t.cpu.pc = 0x0101) = true :=
  ⟨base_inv, goesTo_spec (by decide)⟩

theorem witness_StepKeepsCartridgeIdentity : goesTo onMbc1 (fun t => decide (t.cart.romLen = 0x80000)) = true := by
  decide

/-- One step for each clause: EI's delay ending, a service, DI, the lock, STOP, its end, HALT, its end. -/
theorem witness_ControlBitsHaveTheirCauses :
    goesTo { base with cpu.imeEnableAfter := .nextInstruction } (fun t => t.cpu.ime) = true ∧
      goesTo twoPending (fun t => !t.cpu.ime) = true ∧
      goesTo (coded { base with cpu.ime := true } [0xF3]) (fun t => !t.cpu.ime) = true ∧
      goesTo { base with cpu.lock := true } (fun t => t.cpu.lock) = true ∧
      goesTo (coded base [0xDB]) (fun t => t.cpu.lock) = true ∧
      goesTo (coded base [0x10, 0x00]) (fun t => t.cpu.stop) = true ∧
      goesTo { base with cpu.stop := true, extIrq := [⟨false, true⟩] } (fun t => !t.cpu.stop) = true ∧
      goesTo (coded base [0x76]) (fun t => t.cpu.halt) = true ∧
      goesTo { base with cpu.halt := true, irq := ⟨0, 0x10⟩, extIrq := [⟨false, true⟩] } (fun t => !t.cpu.halt) = true := by
  decide

theorem witness_EndlessWaits :
    ({ base with cpu.lock := true } : State).Locked ∧ ({ base with cpu.halt := true } : State).StuckInHalt ∧
      ({ base with cpu.stop := true, extIrq := [⟨true, false⟩] } : State).StuckInStop ∧
      ∃ t, core.run 0 { base with cpu.lock := true } = .next t :=
  ⟨rfl, ⟨rfl, rfl, rfl, by decide⟩, ⟨rfl, rfl, by decide⟩, ⟨_, rfl⟩⟩

theorem witness_EndOfRunStays :
    (coded base [0x18, 0xFE]).Ended 0x0100 ∧ (coded base [0x18, 0xFE]).cpu.imeEnableAfter = .none ∧
      (coded base [0x18, 0xFE]).cpu.haltBug = false ∧ region 0x0100 = .rom ∧ region 0x0101 = .rom ∧
      goesTo (coded base [0x18, 0xFE]) (fun t => decide (t.cycles = 12)) = true :=
  ⟨⟨by decide, by decide, by decide, by decide, by decide, by decide, by decide⟩, by decide, by decide, by decide,
    by decide, by decide⟩

theorem witness_TimaCountsAndReloads :
    (let t : Timer := { overflowing with tima := 0xFE };
      t.reload = 0 ∧ t.enabled = true ∧ t.tima ≠ 0xFF) ∧
      (let t : Timer := { overflowing with tac := 3 };
        t.reload = 0 ∧ t.enabled = false) ∧
      (let t : Timer := { overflowing with div := 0x000F };
        t.enabled = true ∧ t.reload = 0 ∧ t.tima = 0xFF ∧ (t.div.toNat + 1) % t.period = 0) := by decide

/-- A PPU at the last dot of line 143. -/
def lastDot : Ppu :=
  { base.ppu with lcdc := 0x80, ly := 143, dots := 455 }

/-- A batch in which a reload falls and line 144 starts, with IF clear: both requests land, and a STAT request with its
source enabled. -/
def busyBatch : State :=
  { base with
    ppu := { lastDot with statEn := 0b0010, dots := 453 }, timer := { base.timer with reload := 3 }, cycles := 4 }

theorem witness_DivCountsCycles :
    busyBatch.ppu.lcdOn = true ∧ base.ppu.lcdOn = false ∧
      (Timer.ticks 2 busyBatch.timer).reload = 1 ∧ (Ppu.dotTimes 2 busyBatch.mem busyBatch.ppu).dots = 455 ∧
      busyBatch.irq.ifr = 0b00000 ∧ busyBatch.advance.irq.ifr = 0b00111 := by decide

theorem witness_DivCountsCycles_ok : busyBatch.ppu.Ok :=
  ⟨by decide, by decide, by decide, by decide, by decide, by decide⟩

theorem witness_FrameAndVBlank :
    lastDot.Ok ∧ lastDot.lcdOn = true ∧ (lastDot.position + 1) % 70224 = 65664 :=
  ⟨⟨by decide, by decide, by decide, by decide, by decide, by decide⟩, by decide, by decide⟩

theorem witness_FrameAndVBlank_dots :
    (let p := { lastDot with ly := 0, dots := 79 };
      p.lcdOn = true ∧ p.ly < 144 ∧ p.dots = 79) ∧
      (let p := { lastDot with dots := 251 };
        p.lcdOn = true ∧ p.ly < 144 ∧ p.dots = 251) ∧
      (lastDot.lcdOn = true ∧ lastDot.dots = 455) ∧
      (let p := { lastDot with ly := 144, dots := 79 };
        p.lcdOn = true ∧ ¬ (p.ly < 144 ∧ (p.dots = 79 ∨ p.dots = 251)) ∧ p.dots ≠ 455) := by decide

theorem witness_FirstVBlankAfterLcdOn :
    base.Inv ∧ base.ppu.lcdOn = false ∧ (0x80 : Byte).getLsbD 7 = true ∧ base.irq.ifr.getLsbD 0 = false :=
  ⟨base_inv, by decide, by decide, by decide⟩

theorem witness_LcdSwitchAndStatRequests :
    (lastDot.lcdOn = true ∧ (0x11 : Byte).getLsbD 7 = false) ∧ (base.ppu.lcdOn = false ∧ (0x91 : Byte).getLsbD 7 = true) ∧
      base.ppu.lcdOn = (0x11 : Byte).getLsbD 7 := by decide

/-- LCDC of vector G9 with sprites on: background, window and sprites. -/
def drawing : Ppu := { base.ppu with lcdc := 0xF3, wx := 11, bgp := 0xE4, obp0 := 0xE4, obp1 := 0x1B }

/-- The last pixel before the window of vector G9, where no sprite of an empty OAM is. -/
theorem witness_RenderedBackground :
    ¬ (drawing.lcdc.getLsbD 0 = true ∧ drawing.lcdc.getLsbD 5 = true ∧ drawing.wy.toNat ≤ 0 ∧ drawing.wx.toNat ≤ 166 ∧
      drawing.wx.toNat ≤ 3 + 7) ∧
      drawing.winningSprite [] 3 0 (drawing.lineSprites [] 0) = none := by decide +kernel

/-- The first pixel of the window of vector G9, and the sprites of vector G18: the second of the two wins at x = 8. -/
theorem witness_WindowAndSpritePixels :
    (drawing.lcdc.getLsbD 0 = true ∧ drawing.lcdc.getLsbD 5 = true ∧ drawing.wy.toNat ≤ 0 ∧ drawing.wx.toNat ≤ 166 ∧
      drawing.wx.toNat ≤ 4 + 7 ∧ drawing.winningSprite [] 4 0 (drawing.lineSprites [] 0) = none) ∧
      drawing.lineSprites picture 0 = [⟨16, 12, 2, 0⟩] ++ ⟨16, 14, 2, 0x10⟩ :: [] ∧
      drawing.winningSprite picture 8 0 (drawing.lineSprites picture 0) = some (⟨16, 14, 2, 0x10⟩, 1) := by
  decide +kernel

theorem witness_SpriteSelection :
    ({ base.ppu with lcdc := 0x93 } : Ppu).lcdc.getLsbD 1 = true ∧
      (({ base.ppu with lcdc := 0x93 } : Ppu).lineSprites picture 0).map (fun o => o.x.toNat) = [12, 14] := by
  decide +kernel

theorem witness_StackRoundTrips :
    let s := { base with cpu.sp := 0xD000 }
    isWorkRam (s.cpu.sp - 2) = true ∧ isWorkRam (s.cpu.sp - 1) = true ∧
      (∃ t, exec (Row.push .af) s = .next t ∧ ∃ u, exec (Row.pop .af) t = .next u) ∧
      (∃ t, exec (.call_a16 0x0200) s = .next t ∧ ∃ u, exec .ret t = .next u) ∧
      ∃ u, exec .reti (s.serviceInterrupt .timer) = .next u :=
  ⟨by decide, by decide, ⟨_, rfl, _, rfl⟩, ⟨_, rfl, _, rfl⟩, ⟨_, rfl⟩⟩

theorem witness_BcdAddition :
    let s := { base with cpu.a := 0x99, cpu.b := 0x01 }
    s.cpu.a = BitVec.ofNat 8 (16 * (99 / 10) + 99 % 10) ∧ s.cpu.b = BitVec.ofNat 8 (16 * (1 / 10) + 1 % 10) ∧
      ∃ t, exec .add_A_B s = .next t ∧ ∃ u, exec .daa t = .next u :=
  ⟨by decide, by decide, ⟨_, rfl, _, rfl⟩⟩

end Sys2Proof.Tests
end

/-! PROOFS of the statements of 10_state.md: the invariant (O46), the flags (O22), construction (O36), the cartridge's
identity (O47), the control bits (O48) and the I/O addresses without state (O30). -/

namespace Sys2Proof.Machine

open State

/-! ### The invariant over a step -/

/-- Every step keeps the invariant, whichever of its three actions the CPU takes. -/
theorem State.Inv.step {s t : State} (h : s.Inv) (hst : step s = .next t) : t.Inv := by
  rcases step_cases s with ⟨u, -, hw, e⟩ | ⟨u, q, -, hw, e⟩ | ⟨u, v, -, hw, hx, -, e⟩ <;>
    obtain rfl := Host.Outcome.next.inj (e.symm.trans hst) <;> have hu := h.woken hw
  · have hs : (u.spend 4).Inv := hu.with_cpu rfl 4
    exact hs.advance
  · exact (hu.serviceInterrupt q).advance
  · exact ((inv_exec hu.fetched hx).retire _).advance

/-- Settles O46: the shared operations keep the invariant, so each action of a step does. -/
theorem stepKeepsInv : Obligations.StepKeepsInv := fun _ _ h hst => h.step hst

/-! ### The cartridge's identity -/

/-- What of the machine no step changes (rules R52, R53): the image and the sizes, the rumble column, the parameters, and
the kind of the bank controller. -/
def State.identity (s : State) : Memory × Nat × Nat × Bool × Params × Cartridge.Kind :=
  (s.cart.rom, s.cart.romLen, s.cart.extRamLen, s.cart.rumbleCart, s.params, Cartridge.kindOf s.cart.mbc)

theorem State.identity_congr {s t : State} (hc : t.cart = s.cart) (hp : t.params = s.params) :
    t.identity = s.identity := by
  unfold identity; rw [hc, hp]

theorem State.identity_with_cart (s : State) {c : Cartridge} {r : Memory} {m : Mbc}
    (hc : c = { s.cart with extRam := r, mbc := m }) (hm : Cartridge.kindOf m = Cartridge.kindOf s.cart.mbc) :
    ({ s with cart := c } : State).identity = s.identity := by
  subst hc; simp only [identity, hm]

/-- A bus write keeps the identity: the ROM rows of the map reach the bank registers alone. -/
@[simp] theorem State.write_identity (s : State) (a : Addr) (v : Byte) : (s.write a v).identity = s.identity := by
  unfold write
  cases region a
  case rom =>
    obtain ⟨m, hc, hm⟩ := s.cart.writeRegister_frame a v
    exact s.identity_with_cart hc hm
  case extRam =>
    obtain ⟨r, m, hc, hm⟩ := s.cart.writeRam_frame a v
    exact s.identity_with_cart hc hm
  case io =>
    obtain ⟨-, hc, hp, -⟩ := s.writeIo_frame a v
    exact identity_congr hc hp
  case vram => dsimp only; split <;> rfl
  case oam => dsimp only; split <;> rfl
  all_goals rfl

theorem State.writes_identity (s : State) (l : List (Addr × Byte)) : (s.writes l).identity = s.identity := by
  induction l generalizing s with
  | nil => rfl
  | cons w l ih => exact (ih _).trans (s.write_identity w.1 w.2)

theorem State.Woken.identity {s t : State} (h : Woken s t) : t.identity = s.identity := by
  obtain ⟨a, b, rfl⟩ := h; rfl

theorem State.fetched_identity (s : State) : s.fetched.2.identity = s.identity := by
  obtain ⟨p, h⟩ := s.fetched_frame; rw [h]; rfl

theorem State.serviceInterrupt_identity (s : State) (q : IrqSource) :
    (s.serviceInterrupt q).identity = s.identity := by
  show (State.push16 _ s.cpu.pc).identity = _
  unfold push16 writeWord
  rw [write_identity, write_identity]
  rfl

theorem State.advance_identity (s : State) : s.advance.identity = s.identity := by
  obtain ⟨t, p, f, m, h, hm⟩ := s.advance_frame
  rw [h]
  simp only [identity, hm]

/-- What an instruction of a shape does to the identity: nothing. -/
theorem Shape.identity {l : List Addr} {b : Bool} {s t : State} (h : Shape l b s t) : t.identity = s.identity := by
  obtain ⟨w, c, n, rfl, -⟩ := h
  exact s.writes_identity w

theorem State.retire_identity (s : State) (w : ImeDelay) : (s.retire w).identity = s.identity :=
  identity_congr (retire_cart s w) (retire_params s w)

/-- Every step keeps the identity. -/
theorem step_identity {s t : State} (hst : step s = .next t) : t.identity = s.identity := by
  rcases step_cases s with ⟨u, -, hw, e⟩ | ⟨u, q, -, hw, e⟩ | ⟨u, v, -, hw, -, hs, e⟩ <;>
    obtain rfl := Host.Outcome.next.inj (e.symm.trans hst) <;> rw [State.advance_identity, ← hw.identity]
  · rfl
  · exact u.serviceInterrupt_identity q
  · rw [State.retire_identity, hs.identity, State.fetched_identity]

/-- Settles O47: the identity is one value, which no step changes. -/
theorem stepKeepsCartridgeIdentity : Obligations.StepKeepsCartridgeIdentity := by
  intro s t hst
  have h := step_identity hst
  simp only [State.identity, Prod.mk.injEq] at h
  obtain ⟨hrom, hlen, hram, hrumble, hparams, hkind⟩ := h
  refine ⟨hrom, hlen, hram, hrumble, hparams, ?_⟩
  cases hs : s.cart.mbc <;> cases ht : t.cart.mbc <;> rw [hs, ht] at hkind <;> trivial

/-! ### The I/O addresses that hold no state -/

theorem State.read_io {s : State} {a : Addr} (h : region a = .io) : s.read a = s.readIo a := by
  unfold read readWith; rw [h]

theorem State.write_io {s : State} {a : Addr} (h : region a = .io) (v : Byte) : s.write a v = s.writeIo a v := by
  unfold write; rw [h]

/-- The joypad and serial registers, then the APU (rule R84). -/
theorem ioReg_external {a : Addr} (h : a.toNat % 0x100 ≤ 0x02 ∨ 0x10 ≤ a.toNat % 0x100 ∧ a.toNat % 0x100 ≤ 0x3F) :
    ioReg a = .external := by
  unfold ioReg
  rcases h with h | h
  · obtain h | h | h : a.toNat % 0x100 = 0 ∨ a.toNat % 0x100 = 1 ∨ a.toNat % 0x100 = 2 := by omega
    all_goals (rw [h]; rfl)
  · split <;> first | rfl | exact if_pos h | omega

/-- The low bytes of rule R55 and of the addresses that rule R80 routes nowhere, in order: the registers with state are
the bytes between them. -/
theorem ioReg_stateless {a : Addr}
    (h : a.toNat % 0x100 = 0x03 ∨ 0x08 ≤ a.toNat % 0x100 ∧ a.toNat % 0x100 ≤ 0x0E ∨
      0x4C ≤ a.toNat % 0x100 ∧ a.toNat % 0x100 ≤ 0x7F) :
    ioReg a = .inert ∨ ioReg a = .unrouted := by
  have hlow : ¬ (0x10 ≤ a.toNat % 0x100 ∧ a.toNat % 0x100 ≤ 0x3F) := by omega
  unfold ioReg
  split <;> first | exact .inl rfl | exact .inr (if_neg hlow) | omega

/-- A register without state reads 0xFF and ignores writes. -/
theorem State.io_of_stateless (s : State) {a : Addr} (v : Byte) (h : ioReg a = .inert ∨ ioReg a = .unrouted) :
    s.readIo a = 0xFF ∧ s.writeIo a v = s := by
  unfold readIo writeIo
  rcases h with h | h <;> rw [h] <;> exact ⟨rfl, rfl⟩

theorem State.io_of_external (s : State) {a : Addr} (v : Byte) (h : ioReg a = .external) :
    s.readIo a = Config.ioExternalRead s.draws a ∧ s.writeIo a v = s := by
  unfold readIo writeIo
  rw [h]
  exact ⟨rfl, rfl⟩

/-- Settles O30: the low byte of the address decides which kind of register it is. -/
theorem statelessIoAddresses : Obligations.StatelessIoAddresses := by
  refine fun s a v => ⟨fun h => ?_, fun h => ?_⟩
  · simp only [List.mem_cons, List.not_mem_nil, or_false] at h
    have hr : region a = .io := region_eq_io.mpr (by omega)
    rw [State.read_io hr, State.write_io hr]
    exact s.io_of_stateless v (ioReg_stateless (by omega))
  · have hr : region a = .io := region_eq_io.mpr (by omega)
    rw [State.read_io hr, State.write_io hr]
    exact s.io_of_external v (ioReg_external (by omega))

/-! ### The flags: the families of rows of rule R26, as the operation each runs -/

theorem exec_ld (dst src : R8) (h : ¬ (dst = .indHL ∧ src = .indHL)) (s : State) :
    exec (Row.ld dst src) s = .next (s.ldR8 dst src) := by
  cases dst <;> cases src <;> first | rfl | exact absurd ⟨rfl, rfl⟩ h

theorem exec_ldImm (r : R8) (n : Byte) (s : State) : exec (Row.ldImm r n) s = .next (s.ldR8Imm r n) := by
  cases r <;> rfl

theorem exec_storeMem (p : R16Mem) (s : State) : exec (Row.storeMem p) s = .next (s.storePointer p) := by
  cases p <;> rfl

theorem exec_loadMem (p : R16Mem) (s : State) : exec (Row.loadMem p) s = .next (s.loadPointer p) := by
  cases p <;> rfl

theorem exec_ldPair (r : R16) (n : Addr) (s : State) : exec (Row.ldPair r n) s = .next (s.ldPair r n) := by
  cases r <;> rfl

theorem exec_push (r : R16Stk) (s : State) : exec (Row.push r) s = .next (s.pushPair r) := by cases r <;> rfl

theorem exec_pop (r : R16Stk) (s : State) : exec (Row.pop r) s = .next (s.popPair r) := by cases r <;> rfl

theorem exec_incPair (r : R16) (s : State) : exec (Row.incPair r) s = .next (s.incPair r) := by cases r <;> rfl

theorem exec_decPair (r : R16) (s : State) : exec (Row.decPair r) s = .next (s.decPair r) := by cases r <;> rfl

theorem exec_jrCc (cc : Cond) (e : Byte) (s : State) :
    exec (Row.jrCc cc e) s = .next (s.jumpIf (s.cond cc) (s.relative e) 12 8) := by cases cc <;> rfl

theorem exec_jpCc (cc : Cond) (a : Addr) (s : State) :
    exec (Row.jpCc cc a) s = .next (s.jumpIf (s.cond cc) a 16 12) := by cases cc <;> rfl

theorem exec_callCc (cc : Cond) (a : Addr) (s : State) :
    exec (Row.callCc cc a) s = .next (s.callIf (s.cond cc) a) := by cases cc <;> rfl

theorem exec_retCc (cc : Cond) (s : State) : exec (Row.retCc cc) s = .next (s.retIf (s.cond cc)) := by
  cases cc <;> rfl

theorem exec_rst (y : Fin 8) (s : State) : exec (Row.rst y) s = .next (s.call (BitVec.ofNat 16 (8 * y.val)) 16) := by
  fin_cases y <;> rfl

theorem exec_res (b : Fin 8) (r : R8) (s : State) : exec (Row.res b r) s = .next (s.resR8 b r) := by
  fin_cases b <;> cases r <;> rfl

theorem exec_set (b : Fin 8) (r : R8) (s : State) : exec (Row.set b r) s = .next (s.setR8Bit b r) := by
  fin_cases b <;> cases r <;> rfl

/-! ### The flags: the operations that leave them -/

namespace State

@[simp] theorem writeR8_flags (s : State) (r : R8) (v : Byte) : (s.writeR8 r v).cpu.flags = s.cpu.flags := by
  cases r
  case indHL => exact congrArg Cpu.flags (write_cpu s s.hl v)
  all_goals rfl

@[simp] theorem writeR16_flags (s : State) (r : R16) (v : Addr) : (s.writeR16 r v).cpu.flags = s.cpu.flags := by
  cases r <;> rfl

theorem writeStk_flags (s : State) {r : R16Stk} (h : r ≠ .af) (v : Addr) :
    (s.writeStk r v).cpu.flags = s.cpu.flags := by
  cases r
  case af => exact absurd rfl h
  all_goals rfl

@[simp] theorem bumpPointer_flags (s : State) (p : R16Mem) : (s.bumpPointer p).cpu.flags = s.cpu.flags := by
  cases p <;> rfl

theorem storeA_flags (s : State) (a : Addr) (n : Nat) : (s.storeA a n).cpu.flags = s.cpu.flags := by simp [storeA]

theorem storePointer_flags (s : State) (p : R16Mem) : (s.storePointer p).cpu.flags = s.cpu.flags := by
  simp [storePointer]

theorem loadPointer_flags (s : State) (p : R16Mem) : (s.loadPointer p).cpu.flags = s.cpu.flags := by
  simp [loadPointer]

theorem pushPair_flags (s : State) (r : R16Stk) : (s.pushPair r).cpu.flags = s.cpu.flags := by simp [pushPair]

theorem popPair_flags (s : State) {r : R16Stk} (h : r ≠ .af) : (s.popPair r).cpu.flags = s.cpu.flags :=
  s.pop16.2.writeStk_flags h _

@[simp] theorem jumpIf_flags (s : State) (b : Bool) (a : Addr) (m n : Nat) :
    (s.jumpIf b a m n).cpu.flags = s.cpu.flags := by cases b <;> rfl

@[simp] theorem call_flags (s : State) (a : Addr) (n : Nat) : (s.call a n).cpu.flags = s.cpu.flags := by simp [call]

@[simp] theorem callIf_flags (s : State) (b : Bool) (a : Addr) : (s.callIf b a).cpu.flags = s.cpu.flags := by
  cases b
  · rfl
  · exact s.call_flags a 24

@[simp] theorem retIf_flags (s : State) (b : Bool) : (s.retIf b).cpu.flags = s.cpu.flags := by cases b <;> rfl

@[simp] theorem enterHalt_flags (s : State) : s.enterHalt.cpu.flags = s.cpu.flags := by
  unfold enterHalt; split_ifs <;> rfl

end State

/-- An instruction whose meaning is an operation that leaves the flags leaves them. -/
theorem flags_of_exec {i : Instr} {s t u : State} (ht : exec i s = .next t) (hu : exec i s = .next u)
    (hf : u.cpu.flags = s.cpu.flags) : t.cpu.flags = s.cpu.flags := by
  cases Host.Outcome.next.inj (ht.symm.trans hu); exact hf

/-- Settles O22, family by family of rule R26. -/
theorem flagsLeftAlone : Obligations.FlagsLeftAlone := by
  intro i s t ht h
  rcases h with ⟨x, y, rfl⟩ | ⟨x, n, rfl⟩ | ⟨p, rfl⟩ | ⟨p, rfl⟩ | ⟨a, h⟩ | ⟨n, h⟩ | ⟨x, n, rfl⟩ | ⟨x, rfl⟩ | ⟨x, hx, rfl⟩ |
    ⟨x, h⟩ | ⟨cc, n, rfl⟩ | ⟨cc, a, h⟩ | ⟨cc, rfl⟩ | ⟨y, rfl⟩ | ⟨b, x, h⟩ | h
  · by_cases hh : x = .indHL ∧ y = .indHL
    · obtain ⟨rfl, rfl⟩ := hh
      exact flags_of_exec ht rfl s.enterHalt_flags
    · exact flags_of_exec ht (exec_ld x y hh s) (s.writeR8_flags x _)
  · exact flags_of_exec ht (exec_ldImm x n s) (s.writeR8_flags x n)
  · exact flags_of_exec ht (exec_storeMem p s) (s.storePointer_flags p)
  · exact flags_of_exec ht (exec_loadMem p s) (s.loadPointer_flags p)
  · rcases h with rfl | rfl | rfl | rfl | rfl <;> refine flags_of_exec ht rfl ?_
    · rfl
    · exact s.storeA_flags ..
    · exact congrArg Cpu.flags (s.writeWord_cpu ..)
    · rfl
    · exact s.call_flags ..
  · rcases h with rfl | rfl | rfl | rfl <;> refine flags_of_exec ht rfl ?_
    · rfl
    · exact s.storeA_flags ..
    · rfl
    · rfl
  · exact flags_of_exec ht (exec_ldPair x n s) (s.writeR16_flags x n)
  · exact flags_of_exec ht (exec_push x s) (s.pushPair_flags x)
  · exact flags_of_exec ht (exec_pop x s) (s.popPair_flags hx)
  · rcases h with rfl | rfl
    · exact flags_of_exec ht (exec_incPair x s) (s.writeR16_flags x _)
    · exact flags_of_exec ht (exec_decPair x s) (s.writeR16_flags x _)
  · exact flags_of_exec ht (exec_jrCc cc n s) (s.jumpIf_flags ..)
  · rcases h with rfl | rfl
    · exact flags_of_exec ht (exec_jpCc cc a s) (s.jumpIf_flags ..)
    · exact flags_of_exec ht (exec_callCc cc a s) (s.callIf_flags ..)
  · exact flags_of_exec ht (exec_retCc cc s) (s.retIf_flags _)
  · exact flags_of_exec ht (exec_rst y s) (s.call_flags ..)
  · rcases h with rfl | rfl
    · exact flags_of_exec ht (exec_res b x s) (s.writeR8_flags x _)
    · exact flags_of_exec ht (exec_set b x s) (s.writeR8_flags x _)
  · simp only [List.mem_cons, List.not_mem_nil, or_false] at h
    rcases h with rfl | rfl | rfl | rfl | rfl | rfl | rfl | rfl | rfl | rfl <;> refine flags_of_exec ht rfl ?_
    on_goal 2 => exact s.storeA_flags ..
    on_goal 7 => exact s.enterHalt_flags
    all_goals rfl

/-! ### The control bits -/

/-- The eleven undefined opcodes (rule R306). -/
def undefinedOpcodes : List Instr :=
  [.illegal_D3, .illegal_DB, .illegal_DD, .illegal_E3, .illegal_E4, .illegal_EB, .illegal_EC, .illegal_ED, .illegal_F4,
    .illegal_FC, .illegal_FD]

theorem exec_undefined {i : Instr} (h : i ∈ undefinedOpcodes) (s : State) :
    exec i s = .next (s.raiseIllegalOpcode.spend 4) := by
  simp only [undefinedOpcodes, List.mem_cons, List.not_mem_nil, or_false] at h
  rcases h with rfl | rfl | rfl | rfl | rfl | rfl | rfl | rfl | rfl | rfl | rfl <;> rfl

/-- The instructions that may touch a control bit. -/
theorem controls_cases {i : Instr} (h : controls i = true) :
    i = .di ∨ i = .ei ∨ i = .halt ∨ (∃ pad, i = .stop pad) ∨ i = .reti ∨ i ∈ undefinedOpcodes := by
  unfold controls at h
  split at h <;> simp [undefinedOpcodes] at h ⊢

/-- HALT sets the halt bit or leaves it (rule R304), and leaves IME, stop and the lock. -/
theorem State.enterHalt_control (s : State) :
    (s.enterHalt.cpu.halt = s.cpu.halt ∨ s.enterHalt.cpu.halt = true) ∧ s.enterHalt.cpu.ime = s.cpu.ime ∧
      s.enterHalt.cpu.stop = s.cpu.stop ∧ s.enterHalt.cpu.lock = s.cpu.lock := by
  unfold enterHalt
  split_ifs
  · exact ⟨.inl rfl, rfl, rfl, rfl⟩
  · exact ⟨.inl rfl, rfl, rfl, rfl⟩
  · exact ⟨.inr rfl, rfl, rfl, rfl⟩

/-- Which instructions move IME, the lock, stop and halt, and which way. -/
structure ExecControl (i : Instr) (c d : Cpu) : Prop where
  ime : d.ime = c.ime ∨ (i = .di ∧ d.ime = false) ∨ (i = .reti ∧ d.ime = true)
  lock : d.lock = c.lock ∨ (i ∈ undefinedOpcodes ∧ d.lock = true)
  stop : d.stop = c.stop ∨ ((∃ pad, i = .stop pad) ∧ d.stop = true)
  halt : d.halt = c.halt ∨ (i = .halt ∧ d.halt = true)

theorem ExecControl.of_control_eq {c d : Cpu} (i : Instr) (h : d.control = c.control) : ExecControl i c d := by
  simp only [Cpu.control, Prod.mk.injEq] at h
  obtain ⟨hime, -, hhalt, hstop, -, hlock⟩ := h
  exact ⟨.inl hime, .inl hlock, .inl hstop, .inl hhalt⟩

/-- What one instruction does to IME, the lock, stop and halt. -/
theorem exec_control {i : Instr} {s t : State} (h : exec i s = .next t) : ExecControl i s.cpu t.cpu := by
  cases hi : controls i with
  | false =>
    obtain ⟨t', e, w, c, n, rfl, -, -, hc, -⟩ := exec_shape i s
    cases Host.Outcome.next.inj (h.symm.trans e)
    exact .of_control_eq i (hc hi)
  | true =>
    rcases controls_cases hi with rfl | rfl | rfl | ⟨pad, rfl⟩ | rfl | hu
    · cases h; exact ⟨.inr (.inl ⟨rfl, rfl⟩), .inl rfl, .inl rfl, .inl rfl⟩
    · cases h; exact ⟨.inl rfl, .inl rfl, .inl rfl, .inl rfl⟩
    · cases h
      obtain ⟨hhalt, hime, hstop, hlock⟩ := s.enterHalt_control
      exact ⟨.inl hime, .inl hlock, .inl hstop, hhalt.imp_right fun h => ⟨rfl, h⟩⟩
    · cases h; exact ⟨.inl rfl, .inl rfl, .inr ⟨⟨pad, rfl⟩, rfl⟩, .inl rfl⟩
    · cases h; exact ⟨.inr (.inr ⟨rfl, rfl⟩), .inl rfl, .inl rfl, .inl rfl⟩
    · cases Host.Outcome.next.inj (h.symm.trans (exec_undefined hu s))
      exact ⟨.inl rfl, .inr ⟨hu, rfl⟩, .inl rfl, .inl rfl⟩

/-- EI's delay sets IME and leaves the lock, stop and halt (rule R322). -/
theorem State.retire_control (s : State) (was : ImeDelay) :
    ((s.retire was).cpu.ime = s.cpu.ime ∨ was = .nextInstruction ∧ (s.retire was).cpu.ime = true) ∧
      (s.retire was).cpu.lock = s.cpu.lock ∧ (s.retire was).cpu.stop = s.cpu.stop ∧
      (s.retire was).cpu.halt = s.cpu.halt := by
  unfold retire
  split_ifs with h
  · exact ⟨.inr ⟨h.1, rfl⟩, rfl, rfl, rfl⟩
  · exact ⟨.inl rfl, rfl, rfl, rfl⟩

/-- A service sequence ends a halt, clears IME, and leaves the lock and stop (rule R343). -/
theorem State.serviceInterrupt_cpu (s : State) (q : IrqSource) :
    (s.serviceInterrupt q).cpu =
      { s.cpu with
        ime := false, imeEnableAfter := .none, halt := false, haltBug := false, sp := s.cpu.sp - 2, pc := q.vector } := by
  unfold serviceInterrupt
  simp

/-- The pending interrupts with this step's outside requests among them. -/
theorem State.acceptExt_pending (s : State) :
    s.acceptExt.pending =
      (s.irq.ifr ||| ((if s.ext.serial then 0b01000 else 0) ||| (if s.ext.joypad then 0b10000 else 0))) &&&
        s.irq.ie.extractLsb' 0 5 := rfl

/-- The registers in which a CPU that is neither locked nor left stopped chooses its action: stop ended, and halt ended
where an interrupt is pending (rules R351, R352). -/
def State.running (s : State) : Cpu :=
  { s.cpu with stop := false, halt := s.cpu.halt && decide (s.acceptExt.pending = 0) }

@[simp] theorem State.running_ime (s : State) : s.running.ime = s.cpu.ime := rfl
@[simp] theorem State.running_lock (s : State) : s.running.lock = s.cpu.lock := rfl
@[simp] theorem State.running_stop (s : State) : s.running.stop = false := rfl

/-- The state in which the action is chosen, if the CPU is not left stopped. -/
theorem State.wakes_cpu {s : State} (h : (s.acceptExt.wakeStop s.ext).cpu.stop = false) :
    (s.acceptExt.wakeStop s.ext).wakeHalt.cpu = s.running ∧
      (s.acceptExt.wakeStop s.ext).wakeHalt.pending = s.acceptExt.pending := by
  have hp : ∀ u : State, u.irq = s.acceptExt.irq → u.pending = s.acceptExt.pending := fun u hu => by
    unfold pending; rw [hu]
  refine ⟨?_, hp _ (by simp)⟩
  have hc : (s.acceptExt.wakeStop s.ext).cpu = { s.cpu with stop := false } := by
    rw [wakeStop_cpu] at h ⊢
    split_ifs at h ⊢
    · rfl
    · exact congrArg (fun b => ({ s.cpu with stop := b } : Cpu)) h
  rw [wakeHalt_cpu, hp _ (by simp), hc]
  unfold running
  by_cases h0 : s.acceptExt.pending = 0
  · rw [if_neg (not_not.mpr h0), decide_eq_true h0, Bool.and_true]
  · rw [if_pos h0, decide_eq_false h0, Bool.and_false]

/-- A fetch leaves IME, the lock, stop and halt. -/
theorem ExecControl.of_fetched {i : Instr} {u v : State} (h : exec i u.fetched.2 = .next v) :
    ExecControl i u.cpu v.cpu := by
  have hx := exec_control h
  obtain ⟨p, hf⟩ := u.fetched_frame
  rw [hf] at hx
  exact ⟨hx.ime, hx.lock, hx.stop, hx.halt⟩

/-- An idle step leaves the registers of the state it works on. -/
theorem step_of_idle {s t u : State} (hst : step s = .next t) (h : s.cpuAction = .idle u) : t.cpu = u.cpu := by
  unfold step at hst
  rw [h] at hst
  obtain rfl := Host.Outcome.next.inj hst
  exact advance_cpu _

theorem step_of_service {s t u : State} {q : IrqSource} (hst : step s = .next t) (h : s.cpuAction = .service u q) :
    t.cpu = (u.serviceInterrupt q).cpu := by
  unfold step at hst
  rw [h] at hst
  obtain rfl := Host.Outcome.next.inj hst
  exact advance_cpu _

theorem step_of_execute {s t u : State} (hst : step s = .next t) (h : s.cpuAction = .execute u) :
    ∃ v, exec u.fetched.1 u.fetched.2 = .next v ∧ t.cpu = (v.retire u.cpu.imeEnableAfter).cpu := by
  obtain ⟨v, hx, -⟩ := exec_shape u.fetched.1 u.fetched.2
  unfold step at hst
  rw [h] at hst
  dsimp only at hst
  rw [hx] at hst
  obtain rfl := Host.Outcome.next.inj hst
  exact ⟨v, hx, advance_cpu _⟩

/-- What a step does, told by the control bits: it waits as a locked or stopped CPU, or it wakes and then waits as a
halted one, services an interrupt, or runs an instruction. -/
theorem step_control {s t : State} (hst : step s = .next t) :
    (t.cpu = s.cpu ∧ (s.cpu.lock = true ∨ s.cpu.lock = false ∧ s.cpu.stop = true ∧ s.ext.joypad = false)) ∨
      (s.cpu.lock = false ∧ (s.cpu.stop = false ∨ s.ext.joypad = true) ∧
        ((t.cpu = s.running ∧ s.running.halt = true) ∨
          ((∃ u q, s.cpuAction = .service u q) ∧ s.acceptExt.pending ≠ 0 ∧ t.cpu.ime = false ∧
            t.cpu.lock = false ∧ t.cpu.stop = false ∧ t.cpu.halt = false) ∨
          (s.running.halt = false ∧ ∃ u c, s.cpuAction = .execute u ∧ ExecControl u.fetched.1 s.running c ∧
            (t.cpu.ime = c.ime ∨ s.cpu.imeEnableAfter = .nextInstruction ∧ t.cpu.ime = true) ∧
            t.cpu.lock = c.lock ∧ t.cpu.stop = c.stop ∧ t.cpu.halt = c.halt))) := by
  rcases s.cpuAction_cases with ⟨hl, e⟩ | ⟨hl, hs, e⟩ | ⟨hl, hs, e⟩
  · exact .inl ⟨(step_of_idle hst e).trans (acceptExt_cpu s), .inl hl⟩
  · have ht := step_of_idle hst e
    rw [wakeStop_cpu] at hs ht
    split_ifs at hs ht with hj
    exact .inl ⟨ht, .inr ⟨hl, hs, by simpa using hj⟩⟩
  · obtain ⟨hc, hp⟩ := wakes_cpu hs
    have hj : s.cpu.stop = false ∨ s.ext.joypad = true := by
      rw [wakeStop_cpu] at hs
      split_ifs at hs with hj
      · exact .inr hj
      · exact .inl hs
    refine .inr ⟨hl, hj, ?_⟩
    generalize (s.acceptExt.wakeStop s.ext).wakeHalt = u at hc hp e
    rcases u.runningAction_cases with ⟨-, h0, e'⟩ | ⟨-, hh, e'⟩ | ⟨-, hh, e'⟩ <;> have e := e.trans e'
    · have ht := step_of_service hst e
      rw [serviceInterrupt_cpu, hc] at ht
      exact .inr (.inl ⟨⟨u, _, e⟩, hp ▸ h0, by rw [ht], by rw [ht]; exact hl, by rw [ht]; rfl, by rw [ht]⟩)
    · exact .inl ⟨(step_of_idle hst e).trans hc, hc ▸ hh⟩
    · obtain ⟨v, hx, ht⟩ := step_of_execute hst e
      have hx := ExecControl.of_fetched hx
      obtain ⟨hime, hlock, hstop, hhalt⟩ := v.retire_control u.cpu.imeEnableAfter
      rw [hc] at hx hh ht hime hlock hstop hhalt
      rw [ht]
      exact .inr (.inr ⟨hh, u, v.cpu, e, hx, hime, hlock, hstop, hhalt⟩)

theorem State.running_halt_eq_false {s : State} (h : s.running.halt = false) (hh : s.cpu.halt = true) :
    s.acceptExt.pending ≠ 0 := by
  simpa [running, hh] using h

/-- Settles O48: each way a step can go, against each of the clauses. -/
theorem controlBitsHaveTheirCauses : Obligations.ControlBitsHaveTheirCauses := by
  intro s t hst
  dsimp only
  rw [← s.acceptExt_pending]
  rcases step_control hst with ⟨ht, -⟩ |
    ⟨hl, hj, ⟨ht, hh⟩ | ⟨ha, hp, hti, htl, hts, hth⟩ | ⟨hh, u, c, ha, hx, hime, hlock, hstop, hhalt⟩⟩
  · simp +contextual [ht]
  · have hj' : s.cpu.stop = true → s.ext.joypad = true := fun h => hj.resolve_left (by simp [h])
    have hhalt : s.running.halt = true → s.cpu.halt = true := fun h => (Bool.and_eq_true_iff.mp h).1
    simp +contextual [ht, hl, hh, hhalt hh, hj']
  · have hj' : s.cpu.stop = true → s.ext.joypad = true := fun h => hj.resolve_left (by simp [h])
    have hp' : ¬ s.acceptExt.pending = 0#5 := hp
    simp +contextual [hti, htl, hts, hth, hl, hp', hj, ha, hj']
  · refine ⟨fun h0 h1 => ⟨u, ha, ?_⟩, fun h1 h0 => .inr ⟨u, ha, ?_⟩, fun h1 => ?_, fun h0 h1 => ⟨u, ha, ?_⟩,
      fun h0 h1 => ?_, fun h1 h0 => ⟨hl, hj.resolve_left (by simp [h1])⟩, fun h0 h1 => ⟨u, ha, ?_⟩,
      fun h1 h0 => ⟨hl, hj, running_halt_eq_false hh h1⟩⟩
    · rcases hime with h | ⟨hd, -⟩
      · rcases hx.ime with h' | ⟨-, h'⟩ | ⟨hr, -⟩
        · simp [h, h', h0] at h1
        · simp [h, h'] at h1
        · exact .inl hr
      · exact .inr hd
    · rcases hime with h | ⟨-, h⟩
      · rcases hx.ime with h' | ⟨hd, -⟩ | ⟨-, h'⟩
        · simp [h, h', h1] at h0
        · exact hd
        · simp [h, h'] at h0
      · simp [h] at h0
    · simp [hl] at h1
    · rcases hx.lock with h | ⟨hi, -⟩
      · simp [hlock, h, hl] at h1
      · exact hi
    · rcases hx.stop with h | ⟨⟨pad, hi⟩, -⟩
      · simp [hstop, h] at h1
      · exact ⟨u, pad, ha, hi⟩
    · rcases hx.halt with h | ⟨hi, -⟩
      · simp [hhalt, h, hh] at h1
      · exact hi

/-! ### Construction -/

theorem Ppu.ok_reset : Ppu.reset.Ok := ⟨by decide, by decide, by decide, by decide, by decide, by decide⟩

theorem Timer.ok_reset : Timer.reset.Ok := ⟨by decide, by decide⟩

/-- A machine right after reset meets the invariant if its memories do. -/
theorem State.Inv.resetWith {c : Cartridge} {m : Memory} (hc : c.Ok) (hm : Memory.wf m = true)
    (ho : m.all (fun e => ownedKey e.1) = true) : (State.resetWith c m).Inv :=
  ⟨hm, ho, Ppu.ok_reset, Timer.ok_reset, hc, fun _ => rfl⟩

namespace Cartridge

/-- The RAM-size codes (rule R93). -/
theorem ramLenOfCode_eq (code : Byte) :
    ramLenOfCode code =
      if code.toNat = 0 then some 0
      else if code.toNat = 1 then some (2 * 1024)
      else if code.toNat = 2 then some (8 * 1024)
      else if code.toNat = 3 then some (32 * 1024)
      else if code.toNat = 4 then some (128 * 1024)
      else if code.toNat = 5 then some (64 * 1024)
      else none := by
  unfold ramLenOfCode
  split
  case h_7 h0 h1 h2 h3 h4 h5 => rw [if_neg h0, if_neg h1, if_neg h2, if_neg h3, if_neg h4, if_neg h5]
  all_goals rename_i h; rw [h]; rfl

/-- The external RAM length that a type row and a RAM-size code give (rules R92, R93). -/
theorem extRamLenOf_eq (row : TypeRow) (code : Byte) :
    extRamLenOf row code =
      if row.kind = .mbc2 then some 512
      else if row.ram = false then some 0
      else if code.toNat = 0 then some 0
      else if code.toNat = 1 then some (2 * 1024)
      else if code.toNat = 2 then some (8 * 1024)
      else if code.toNat = 3 then some (32 * 1024)
      else if code.toNat = 4 then some (128 * 1024)
      else if code.toNat = 5 then some (64 * 1024)
      else none := by
  unfold extRamLenOf
  rw [ramLenOfCode_eq]
  cases row.ram <;> rfl

theorem extRamLen_of_mbc2 {row : TypeRow} {code : Byte} {n : Nat} (h : extRamLenOf row code = some n)
    (hk : row.kind = .mbc2) : n = 0x200 := by
  unfold extRamLenOf at h
  rw [if_pos hk] at h
  exact (Option.some.inj h).symm

/-- A statement about the external RAM length, told code by code: `absent` where there is no length. -/
theorem elim_extRamLenOf (row : TypeRow) (code : Byte) (absent : Prop) (size : Nat → Prop) :
    (extRamLenOf row code).elim absent size ↔
      if row.kind = .mbc2 then size 512
      else if row.ram = false then size 0
      else if code.toNat = 0 then size 0
      else if code.toNat = 1 then size (2 * 1024)
      else if code.toNat = 2 then size (8 * 1024)
      else if code.toNat = 3 then size (32 * 1024)
      else if code.toNat = 4 then size (128 * 1024)
      else if code.toNat = 5 then size (64 * 1024)
      else absent := by
  rw [extRamLenOf_eq]
  simp only [apply_ite (Option.elim · absent size), Option.elim_some, Option.elim_none]

/-- The type codes (rule R92). -/
theorem typeRow_eq (code : Byte) :
    (typeRow code).map (fun r => r.kind) =
        (if code.toNat ∈ [0x00, 0x08, 0x09] then some .none
         else if code.toNat ∈ [0x01, 0x02, 0x03] then some .mbc1
         else if code.toNat ∈ [0x05, 0x06] then some .mbc2
         else if 0x0F ≤ code.toNat ∧ code.toNat ≤ 0x13 then some .mbc3
         else if 0x19 ≤ code.toNat ∧ code.toNat ≤ 0x1E then some .mbc5
         else none) ∧
      ∀ r, typeRow code = some r →
        r.ram = decide (code.toNat ∈ [0x02, 0x03, 0x05, 0x06, 0x08, 0x09, 0x10, 0x12, 0x13, 0x1A, 0x1B, 0x1D, 0x1E]) ∧
          r.rumble = decide (code.toNat ∈ [0x1C, 0x1D, 0x1E]) := by
  unfold typeRow
  split
  case h_20 =>
    simp only [imp_false] at *
    refine ⟨?_, fun r hr => nomatch hr⟩
    simp only [List.mem_cons, List.not_mem_nil, or_false]
    rw [if_neg, if_neg, if_neg, if_neg, if_neg] <;> first | rfl | omega
  all_goals
    rename_i h
    rw [h]
    exact ⟨rfl, fun r hr => by cases hr; exact ⟨rfl, rfl⟩⟩

/-- Every bank controller starts with a bank register that its rule allows (rule R425). -/
theorem banksOk_initial (power : PowerOn) (rom : Memory) (len : Nat) (row : TypeRow) {n : Nat}
    (hn : row.kind = .mbc2 → n = 0x200) : (initial power rom len row n).banksOk := by
  unfold banksOk initial
  cases hk : row.kind
  case mbc2 => exact ⟨by decide, hn hk, halfBytes_initialRam power n⟩
  case none => trivial
  case mbc5 => exact fun _ => by decide
  case mbc1 => exact (by decide : (1 : BitVec 5) ≠ 0)
  case mbc3 => exact (by decide : (1 : BitVec 7) ≠ 0)

theorem ok_initial (power : PowerOn) {rom : Memory} {len : Nat} {row : TypeRow} {n : Nat}
    (hrom : Memory.wf rom = true) (hlen : ¬ (len % 0x4000 ≠ 0 ∨ len < 0x8000)) (hn : row.kind = .mbc2 → n = 0x200) :
    (initial power rom len row n).Ok where
  rom := hrom
  size := by show 0x8000 ≤ len ∧ len % 0x4000 = 0; omega
  ram := wf_initialRam power row.kind n
  ramSize := below_initialRam power row.kind n
  banks := banksOk_initial power rom len row hn

/-- The ROM-size codes (rule R90). -/
theorem romLenOfCode_eq (code : Byte) :
    romLenOfCode code =
      if code = 0x52 then 72 * 0x4000
      else if code = 0x53 then 80 * 0x4000
      else if code = 0x54 then 96 * 0x4000
      else 0x8000 * 2 ^ code.toNat := by
  have eq : ∀ n : Byte, code = n ↔ code.toNat = n.toNat := fun n => BitVec.toNat_inj.symm
  simp only [eq]
  unfold romLenOfCode
  split <;> rename_i h
  · simp [h]
  · simp [h]
  · simp [h]
  · split_ifs <;> first | rfl | contradiction

end Cartridge

/-- An address of VRAM, WRAM, its echo, OAM or HRAM reads the byte of `mem` under its key, where rule R88 closes
nothing. -/
theorem State.read_memory {s : State} {a : Addr} (hs : s.params.ppuAccessRestrict = false) (h : isMemory a = true) :
    s.read a = Store.get s.mem (memKey a) := by
  unfold read readWith vramClosed oamClosed
  rcases isMemory_iff.mp h with h | h | h | h | h <;> rw [h, hs] <;> rfl

theorem construct_of_bad_length {len : Nat} (h : len % 0x4000 ≠ 0 ∨ len < 0x8000) (rom : Memory) (power : PowerOn) :
    State.construct rom len power = .fault .invalidRomSize := if_pos h

theorem construct_unsupported {rom : Memory} {len : Nat} (power : PowerOn) (hl : ¬ (len % 0x4000 ≠ 0 ∨ len < 0x8000))
    (h : len ≠ Cartridge.romLenOfCode (Store.get rom 0x148) ∨ Cartridge.typeRow (Store.get rom 0x147) = none) :
    State.construct rom len power = .fault .unsupportedCartridge := by
  unfold State.construct
  rw [if_neg hl]
  split_ifs with hs
  · rfl
  · rw [h.resolve_left hs]

/-- Settles O36: the refusals, then the machine that is built for the external RAM length of the row and the code. -/
theorem construction : Obligations.Construction := by
  refine ⟨fun rom len power => ⟨fun h => construct_of_bad_length h rom power, fun hl =>
    ⟨construct_unsupported power hl, fun row hs ht => ?_⟩⟩, Cartridge.romLenOfCode_eq, Cartridge.typeRow_eq⟩
  have hc := State.construct_of_row power hl hs ht
  intro code size
  refine (Cartridge.elim_extRamLenOf row (Store.get rom 0x149) _ size).mp ?_
  cases hn : Cartridge.extRamLenOf row (Store.get rom 0x149) with
  | none => rw [hn] at hc; exact hc
  | some n =>
    rw [hn] at hc
    refine ⟨_, hc, rfl, fun a ha => ?_, rfl, rfl, rfl, fun i hi => Cartridge.get_initialRam power row.kind hi, rfl,
      fun hrom => .resetWith (Cartridge.ok_initial power hrom hl (Cartridge.extRamLen_of_mbc2 hn))
        (Memory.wf_initial power) (Memory.owned_initial power), ?_⟩
    · exact (State.read_memory rfl ha).trans (Memory.get_initial power ha)
    · obtain ⟨kind, ram, battery, rtc, rumble⟩ := row
      cases kind
      case none => trivial
      case mbc3 => exact ⟨rfl, rfl, rfl, rfl, rfl, rfl⟩
      all_goals rfl

end Sys2Proof.Machine

/-! PROOFS of the statements of 20_memory.md: the frame of all instructions (O21), memory and its echo (O27), the OAM
copy (O31), the bank controllers (O32 to O35), the address map (O26) and the registers on the bus (O28, O29). -/

namespace Sys2Proof

/-! ### Bit fields as numbers -/

theorem extractLsb'_zero_eq_ofNat {w : Nat} (v : BitVec w) (n : Nat) : v.extractLsb' 0 n = BitVec.ofNat n v.toNat := rfl

theorem ofNat_eq_zero_iff (n x : Nat) : BitVec.ofNat n x = 0 ↔ x % 2 ^ n = 0 := by
  rw [← BitVec.toNat_inj, BitVec.toNat_ofNat]; simp

theorem getLsbD_eq_decide {w : Nat} (v : BitVec w) (i : Nat) : v.getLsbD i = decide (v.toNat / 2 ^ i % 2 = 1) :=
  Nat.testBit_eq_decide_div_mod_eq

theorem toNat_append_eq_add {m n : Nat} (x : BitVec m) (y : BitVec n) : (x ++ y).toNat = x.toNat * 2 ^ n + y.toNat := by
  rw [BitVec.toNat_append, ← Nat.shiftLeft_add_eq_or_of_lt y.isLt, Nat.shiftLeft_eq]

theorem toNat_and_0F (v : Byte) : (v &&& 0x0F).toNat = v.toNat % 16 :=
  (BitVec.toNat_and v 0x0F).trans (Nat.and_two_pow_sub_one_eq_mod v.toNat 4)

theorem and_0F_eq_ofNat (v : Byte) : v &&& 0x0F = BitVec.ofNat 8 (v.toNat % 16) :=
  BitVec.eq_of_toNat_eq (by rw [toNat_and_0F, BitVec.toNat_ofNat]; omega)

end Sys2Proof

namespace Sys2Proof.Machine

open State

/-! ### The bus, row by row of the address map -/

theorem memKey_of_region {a : Addr} {r : Region} (h : region a = r) (hr : r ≠ .echo) : memKey a = a.toNat :=
  memKey_of_ne_echo (h ▸ hr)

namespace State

section

variable {s : State} {a : Addr}

theorem vramClosed_iff {r : Bool} :
    s.vramClosed r = true ↔ r = true ∧ s.ppu.lcdOn = true ∧ s.ppu.mode = .draw := by
  simp [vramClosed, and_assoc]

theorem oamClosed_iff {r : Bool} :
    s.oamClosed r = true ↔ r = true ∧ s.ppu.lcdOn = true ∧ (s.ppu.mode = .oamScan ∨ s.ppu.mode = .draw) := by
  simp [oamClosed, and_assoc]

theorem setMem_of_region {r : Region} (h : region a = r) (hr : r ≠ .echo) (v : Byte) :
    s.setMem a v = { s with mem := Store.set s.mem a.toNat v } := by
  unfold setMem; rw [memKey_of_region h hr]

theorem read_rom (h : region a = .rom) : s.read a = s.cart.readRom a := by
  unfold read readWith; rw [h]

theorem write_rom (h : region a = .rom) (v : Byte) : s.write a v = { s with cart := s.cart.writeRegister a v } := by
  unfold write; rw [h]

theorem read_vram (h : region a = .vram) :
    s.read a =
      if s.params.ppuAccessRestrict = true ∧ s.ppu.lcdOn = true ∧ s.ppu.mode = .draw then 0xFF
      else Store.get s.mem a.toNat := by
  unfold read readWith; rw [h, memKey_of_region h (by decide)]; simp only [vramClosed_iff]

theorem write_vram (h : region a = .vram) (v : Byte) :
    s.write a v =
      if s.params.ppuAccessRestrict = true ∧ s.ppu.lcdOn = true ∧ s.ppu.mode = .draw then s
      else { s with mem := Store.set s.mem a.toNat v } := by
  unfold write; rw [h, setMem_of_region h (by decide)]; simp only [vramClosed_iff]

theorem read_extRam (h : region a = .extRam) : s.read a = s.cart.readRam a := by
  unfold read readWith; rw [h]

theorem write_extRam (h : region a = .extRam) (v : Byte) : s.write a v = { s with cart := s.cart.writeRam a v } := by
  unfold write; rw [h]

theorem read_wram (h : region a = .wram) : s.read a = Store.get s.mem a.toNat := by
  unfold read readWith; rw [h, memKey_of_region h (by decide)]

theorem write_wram (h : region a = .wram) (v : Byte) : s.write a v = { s with mem := Store.set s.mem a.toNat v } := by
  unfold write; rw [h, setMem_of_region h (by decide)]

theorem read_echo (h : region a = .echo) : s.read a = Store.get s.mem (a.toNat - 0x2000) := by
  unfold read readWith; rw [h, memKey_echo h]

theorem write_echo (h : region a = .echo) (v : Byte) :
    s.write a v = { s with mem := Store.set s.mem (a.toNat - 0x2000) v } := by
  unfold write setMem; rw [h, memKey_echo h]

theorem read_oam (h : region a = .oam) :
    s.read a =
      if s.params.ppuAccessRestrict = true ∧ s.ppu.lcdOn = true ∧ (s.ppu.mode = .oamScan ∨ s.ppu.mode = .draw)
      then 0xFF
      else Store.get s.mem a.toNat := by
  unfold read readWith; rw [h, memKey_of_region h (by decide)]; simp only [oamClosed_iff]

theorem write_oam (h : region a = .oam) (v : Byte) :
    s.write a v =
      if s.params.ppuAccessRestrict = true ∧ s.ppu.lcdOn = true ∧ (s.ppu.mode = .oamScan ∨ s.ppu.mode = .draw) then s
      else { s with mem := Store.set s.mem a.toNat v } := by
  unfold write; rw [h, setMem_of_region h (by decide)]; simp only [oamClosed_iff]

theorem read_unusable (h : region a = .unusable) : s.read a = 0xFF := by
  unfold read readWith; rw [h]

theorem write_unusable (h : region a = .unusable) (v : Byte) : s.write a v = s := by
  unfold write; rw [h]

theorem read_hram (h : region a = .hram) : s.read a = Store.get s.mem a.toNat := by
  unfold read readWith; rw [h, memKey_of_region h (by decide)]

theorem write_hram (h : region a = .hram) (v : Byte) : s.write a v = { s with mem := Store.set s.mem a.toNat v } := by
  unfold write; rw [h, setMem_of_region h (by decide)]

theorem read_ie (h : region a = .ie) : s.read a = s.irq.ie := by
  unfold read readWith; rw [h]

theorem write_ie (h : region a = .ie) (v : Byte) : s.write a v = { s with irq.ie := v } := by
  unfold write; rw [h]

end

end State

/-! ### The frame of all instructions -/

/-- What an instruction that answers a state has done: the stores that `Instr.stores` names, and a change of the
registers. -/
theorem exec_writes {i : Instr} {s t : State} (h : exec i s = .next t) :
    ∃ w c n, t = { s.writes w with cpu := c, cycles := n } ∧ w.map Prod.fst = i.stores s := by
  obtain ⟨t', e, w, c, n, ht, hw, -⟩ := exec_shape i s
  exact ⟨w, c, n, (Host.Outcome.next.inj (h.symm.trans e)).trans ht, hw⟩

/-- Settles O21: a run of writes changes the reads that one of its addresses touches, and no write is no change. -/
theorem storesAreTheFrame : Obligations.StoresAreTheFrame := by
  refine ⟨fun i s t b he hb => ?_, fun i s t he h0 => ?_⟩
  · obtain ⟨w, c, n, rfl, hw⟩ := exec_writes he
    exact read_writes w fun x hx => hb x.1 (hw ▸ List.mem_map_of_mem hx)
  · obtain ⟨w, c, n, rfl, hw⟩ := exec_writes he
    obtain rfl : w = [] := List.map_eq_nil_iff.mp (hw.trans h0)
    exact ⟨rfl, rfl, rfl, rfl, rfl, rfl, rfl, rfl⟩

/-! ### Memory and its echo -/

theorem toNat_echo_sub {a : Addr} (h : 0xE000 ≤ a.toNat) : (a - 0x2000).toNat = a.toNat - 0x2000 :=
  BitVec.toNat_sub_of_le (BitVec.le_def.mpr (Nat.le_trans (by decide) h))

/-- Settles O27: the laws of a store, and an echo address with the key of the work RAM address 0x2000 lower. -/
theorem memoryAndEcho : Obligations.MemoryAndEcho := by
  refine ⟨fun m i j v => ⟨Store.get_set m i j v, fun h => Memory.wf_set h i v⟩, fun s a v h h' => ?_⟩
  have hn := toNat_echo_sub h
  have he : region a = .echo := region_eq_echo.mpr ⟨h, h'⟩
  have hw : region (a - 0x2000) = .wram := region_eq_wram.mpr (by omega)
  rw [read_echo he, read_wram hw, write_echo he, write_wram hw, hn]
  exact ⟨rfl, rfl⟩

/-! ### The OAM copy -/

theorem State.write_dma (s : State) (v : Byte) : s.write 0xFF46 v = s.writeDma v := rfl

theorem memKey_oam {i : Nat} (h : i < 160) :
    region (BitVec.ofNat 16 (0xFE00 + i)) = .oam ∧ memKey (BitVec.ofNat 16 (0xFE00 + i)) = 0xFE00 + i := by
  have hn : (BitVec.ofNat 16 (0xFE00 + i)).toNat = 0xFE00 + i := by rw [BitVec.toNat_ofNat]; omega
  have hr : region (BitVec.ofNat 16 (0xFE00 + i)) = .oam := region_eq_oam.mpr (by omega)
  exact ⟨hr, by rw [memKey_of_ne_echo (by rw [hr]; decide), hn]⟩

theorem State.readWith_false_oam {s : State} {a : Addr} (h : region a = .oam) :
    s.readWith false a = Store.get s.mem (memKey a) := by
  unfold readWith; rw [h]; rfl

theorem touches_dma {b : Addr} : touches 0xFF46 b = (decide (b = 0xFF46) || decide (region b = .oam)) := rfl

/-- Settles O31: the memory that the copy leaves gives OAM, and every other read is one that a store to DMA does not
touch. -/
theorem oamDma : Obligations.OamDma := by
  intro s v t s'
  have ht : t = s.writeDma v := write_dma s v
  obtain ⟨m, hm⟩ := s.writeDma_frame v
  refine ⟨by rw [ht, hm], by rw [ht, hm], fun i hi => ?_, fun a ha hd => read_write v ?_⟩
  · obtain ⟨hr, hk⟩ := memKey_oam hi
    rw [readWith_false_oam hr, hk, ht, writeDma_get, if_pos (by omega), Nat.add_sub_cancel_left]
  · rw [← region_eq_oam] at ha
    rw [touches_dma, decide_eq_false hd, decide_eq_false ha]
    rfl

/-! ### The cartridge: bank registers, ROM banks and window -/

namespace Cartridge

variable {c : Cartridge}

/-! ### The bank registers -/

theorem enables_eq (v : Byte) : enables v = decide (v.toNat % 16 = 0xA) :=
  decide_eq_decide.mpr BitVec.toNat_inj.symm

/-- The rule of MBC1, MBC2 and MBC3 that bank 0 becomes bank 1. -/
theorem bank_or_one (n : Nat) {k : Nat} (hk : 2 ^ n = k) (v : Byte) :
    (if v.extractLsb' 0 n = 0 then 1 else v.extractLsb' 0 n) =
      if v.toNat % k = 0 then 1 else BitVec.ofNat n v.toNat := by
  subst hk
  simp only [extractLsb'_zero_eq_ofNat, ofNat_eq_zero_iff]

/-- The nine ROM bank bits of MBC5, a new low byte. -/
theorem bank_low_byte (b : BitVec 9) (v : Byte) :
    b.extractLsb' 8 1 ++ v = BitVec.ofNat 9 (256 * (b.toNat / 256) + v.toNat) :=
  BitVec.eq_of_toNat_eq (by
    have := b.isLt
    have := v.isLt
    rw [toNat_append_eq_add, BitVec.extractLsb'_toNat, BitVec.toNat_ofNat, Nat.shiftRight_eq_div_pow]
    omega)

/-- The nine ROM bank bits of MBC5, a new high bit. -/
theorem bank_high_bit (b : BitVec 9) (v : Byte) :
    v.extractLsb' 0 1 ++ b.extractLsb' 0 8 = BitVec.ofNat 9 (256 * (v.toNat % 2) + b.toNat % 256) :=
  BitVec.eq_of_toNat_eq (by
    rw [toNat_append_eq_add, BitVec.extractLsb'_toNat, BitVec.extractLsb'_toNat, BitVec.toNat_ofNat,
      Nat.shiftRight_zero, Nat.shiftRight_zero]
    omega)

/-- The RAM bank bits of MBC5 where bit 3 drives the motor. -/
theorem three_bank_bits (v : Byte) : 0#1 ++ v.extractLsb' 0 3 = BitVec.ofNat 4 (v.toNat % 8) :=
  BitVec.eq_of_toNat_eq (by
    rw [toNat_append_eq_add, BitVec.extractLsb'_toNat, BitVec.toNat_ofNat, BitVec.toNat_ofNat, Nat.shiftRight_zero]
    omega)

theorem four_bank_bits (v : Byte) : v.extractLsb' 0 4 = BitVec.ofNat 4 (v.toNat % 16) :=
  BitVec.eq_of_toNat_eq (by
    rw [BitVec.extractLsb'_toNat, BitVec.toNat_ofNat, Nat.shiftRight_zero]
    omega)

/-! ### The ROM bank of each half -/

theorem romBank_none (h : c.mbc = .none) (a : Addr) : c.romBank a = if 0x4000 ≤ a.toNat then 1 else 0 := by
  unfold romBank; rw [h]; simp only [decide_eq_true_eq]

theorem romBank_mbc1 {m : Mbc1} (h : c.mbc = .mbc1 m) (a : Addr) :
    c.romBank a =
      if 0x4000 ≤ a.toNat then 32 * m.ramBank.toNat + m.romBank.toNat
      else if m.mode = .ram then 32 * m.ramBank.toNat
      else 0 := by
  unfold romBank; rw [h]; simp only [decide_eq_true_eq, Nat.mul_comm 32]

theorem romBank_mbc2 {m : Mbc2} (h : c.mbc = .mbc2 m) (a : Addr) :
    c.romBank a = if 0x4000 ≤ a.toNat then m.romBank.toNat else 0 := by
  unfold romBank; rw [h]; simp only [decide_eq_true_eq]

theorem romBank_mbc3 {m : Mbc3} (h : c.mbc = .mbc3 m) (a : Addr) :
    c.romBank a = if 0x4000 ≤ a.toNat then m.romBank.toNat else 0 := by
  unfold romBank; rw [h]; simp only [decide_eq_true_eq]

theorem romBank_mbc5 {m : Mbc5} (h : c.mbc = .mbc5 m) (a : Addr) :
    c.romBank a = if 0x4000 ≤ a.toNat then m.romBank.toNat else 0 := by
  unfold romBank; rw [h]; simp only [decide_eq_true_eq]

/-! ### The window -/

theorem window_of_none (h : c.mbc = .none) (a : Addr) :
    c.window a = if c.extRamLen = 0 then .nothing else .ram (a.toNat % 0x2000 % c.extRamLen) := by
  unfold window; rw [h]

theorem window_of_mbc1 {m : Mbc1} (h : c.mbc = .mbc1 m) (a : Addr) :
    c.window a =
      if c.extRamLen = 0 ∨ m.ramEnable = false then .nothing
      else .ram (((if m.mode = .ram then m.ramBank.toNat else 0) * 0x2000 + a.toNat % 0x2000) % c.extRamLen) := by
  unfold window; rw [h]; simp only [ite_or, Bool.not_eq_true']

theorem window_of_mbc2 {m : Mbc2} (h : c.mbc = .mbc2 m) (a : Addr) :
    c.window a =
      if c.extRamLen = 0 ∨ m.ramEnable = false then .nothing else .nibble (a.toNat % 0x2000 % 0x200) := by
  unfold window; rw [h]; simp only [ite_or, Bool.not_eq_true']

theorem window_of_mbc3 {m : Mbc3} (h : c.mbc = .mbc3 m) (a : Addr) :
    c.window a =
      if c.extRamLen = 0 ∨ m.ramEnable = false then .nothing
      else if m.ramBank.toNat < 4 then .ram ((m.ramBank.toNat * 0x2000 + a.toNat % 0x2000) % c.extRamLen)
      else if 0x08 ≤ m.ramBank.toNat ∧ m.ramBank.toNat ≤ 0x0C then .rtc m.ramBank
      else .nothing := by
  unfold window; rw [h]; simp only [ite_or, Bool.not_eq_true']

theorem window_of_mbc5 {m : Mbc5} (h : c.mbc = .mbc5 m) (a : Addr) :
    c.window a =
      if c.extRamLen = 0 ∨ m.ramEnable = false then .nothing
      else .ram ((m.ramBank.toNat * 0x2000 + a.toNat % 0x2000) % c.extRamLen) := by
  unfold window; rw [h]; simp only [ite_or, Bool.not_eq_true']

end Cartridge

namespace State

section

variable {s : State} {a : Addr}

/-- A write to ROM writes the bank registers. -/
theorem write_mbc (ha : a.toNat < 0x8000) {v : Byte} {m : Mbc} (h : (s.cart.writeRegister a v).mbc = m) :
    s.write a v = { s with cart.mbc := m } := by
  subst h
  exact write_rom (region_eq_rom.mpr ha) v

theorem write_mbc1 {m m' : Mbc1} (hm : s.cart.mbc = .mbc1 m) (ha : a.toNat < 0x8000) {v : Byte}
    (h : Cartridge.writeMbc1 m a v = m') : s.write a v = { s with cart.mbc := .mbc1 m' } :=
  write_mbc ha (by rw [← h, Cartridge.writeRegister, hm])

theorem write_mbc2 {m m' : Mbc2} (hm : s.cart.mbc = .mbc2 m) (ha : a.toNat < 0x8000) {v : Byte}
    (h : Cartridge.writeMbc2 m a v = m') : s.write a v = { s with cart.mbc := .mbc2 m' } :=
  write_mbc ha (by rw [← h, Cartridge.writeRegister, hm])

theorem write_mbc3 {m m' : Mbc3} (hm : s.cart.mbc = .mbc3 m) (ha : a.toNat < 0x8000) {v : Byte}
    (h : Cartridge.writeMbc3 m a v = m') : s.write a v = { s with cart.mbc := .mbc3 m' } :=
  write_mbc ha (by rw [← h, Cartridge.writeRegister, hm])

theorem write_mbc5 {m m' : Mbc5} (hm : s.cart.mbc = .mbc5 m) (ha : a.toNat < 0x8000) {v : Byte}
    (h : Cartridge.writeMbc5 s.cart.rumbleCart m a v = m') : s.write a v = { s with cart.mbc := .mbc5 m' } :=
  write_mbc ha (by rw [← h, Cartridge.writeRegister, hm])

/-- A write that leaves the bank registers leaves the machine. -/
theorem write_mbc_self {m : Mbc} (hm : s.cart.mbc = m) : ({ s with cart.mbc := m } : State) = s := by
  subst hm; rfl

theorem read_lowRom (ha : a.toNat < 0x4000) :
    s.read a = Store.get s.cart.rom ((s.cart.romBank a * 0x4000 + a.toNat) % s.cart.romLen) := by
  rw [read_rom (region_eq_rom.mpr (by omega)), Cartridge.readRom, Cartridge.romIndex, Nat.mod_eq_of_lt ha]

theorem read_highRom (ha : 0x4000 ≤ a.toNat ∧ a.toNat < 0x8000) :
    s.read a = Store.get s.cart.rom ((s.cart.romBank a * 0x4000 + (a.toNat - 0x4000)) % s.cart.romLen) := by
  rw [read_rom (region_eq_rom.mpr ha.2), Cartridge.readRom, Cartridge.romIndex,
    show a.toNat % 0x4000 = a.toNat - 0x4000 by omega]

/-- A window that reaches nothing (rule R75). -/
theorem extRam_of_nothing (ha : region a = .extRam) (h : s.cart.window a = .nothing) (v : Byte) :
    s.read a = 0xFF ∧ s.write a v = s := by
  rw [read_extRam ha, write_extRam ha, Cartridge.readRam, Cartridge.writeRam, h]
  exact ⟨rfl, rfl⟩

theorem extRam_of_ram (ha : region a = .extRam) {i : Nat} (h : s.cart.window a = .ram i) (v : Byte) :
    s.read a = Store.get s.cart.extRam i ∧ s.write a v = { s with cart.extRam := Store.set s.cart.extRam i v } := by
  rw [read_extRam ha, write_extRam ha, Cartridge.readRam, Cartridge.writeRam, h]
  exact ⟨rfl, rfl⟩

theorem extRam_of_nibble (ha : region a = .extRam) {i : Nat} (h : s.cart.window a = .nibble i) (v : Byte) :
    s.read a = Store.get s.cart.extRam i &&& 0x0F ∧
      s.write a v = { s with cart.extRam := Store.set s.cart.extRam i (v &&& 0x0F) } := by
  rw [read_extRam ha, write_extRam ha, Cartridge.readRam, Cartridge.writeRam, h]
  exact ⟨rfl, rfl⟩

theorem extRam_of_rtc (ha : region a = .extRam) {m : Mbc3} (hm : s.cart.mbc = .mbc3 m) {sel : Byte}
    (h : s.cart.window a = .rtc sel) (v : Byte) :
    s.read a = Cartridge.getRtc m.rtcLatched sel ∧
      s.write a v =
        { s with
          cart.mbc := .mbc3
            { m with
              rtcLive := Cartridge.setRtc m.rtcLive sel v, rtcLatched := Cartridge.setRtc m.rtcLatched sel v } } := by
  rw [read_extRam ha, write_extRam ha, Cartridge.readRam, Cartridge.writeRam, h]
  dsimp only
  rw [hm]
  exact ⟨rfl, rfl⟩

/-- A window that is closed or reaches one byte of external RAM. -/
theorem extRam_of_ite {closed : Prop} [Decidable closed] (ha : region a = .extRam) {i : Nat}
    (h : s.cart.window a = if closed then .nothing else .ram i) (v : Byte) :
    if closed then s.read a = 0xFF ∧ s.write a v = s
    else s.read a = Store.get s.cart.extRam i ∧ s.write a v = { s with cart.extRam := Store.set s.cart.extRam i v } := by
  split_ifs at h ⊢
  · exact extRam_of_nothing ha h v
  · exact extRam_of_ram ha h v

end

end State

/-- The offset in the window of rule R75. -/
theorem window_offset {n : Nat} (h : 0xA000 ≤ n ∧ n < 0xC000) : n % 0x2000 = n - 0xA000 := by omega

/-- Settles O32: the ROM bank of each half, the register that a write reaches, and the target of the window. -/
theorem kindNoneAndMbc2Banking : Obligations.KindNoneAndMbc2Banking := by
  refine ⟨fun s a v hm hlen => ⟨fun h => ⟨?_, ?_⟩, fun h => ?_⟩, fun s m a v hm hlen => ?_⟩
  · have hb := Cartridge.romBank_none hm a
    by_cases hh : 0x4000 ≤ a.toNat
    · rw [read_highRom ⟨hh, h⟩, hb, if_pos hh, Nat.mod_eq_of_lt (by omega),
        show 1 * 0x4000 + (a.toNat - 0x4000) = a.toNat by omega]
    · rw [read_lowRom (by omega), hb, if_neg hh, Nat.mod_eq_of_lt (by omega), Nat.zero_mul, Nat.zero_add]
  · rw [write_mbc (m := .none) h (by rw [Cartridge.writeRegister, hm]), write_mbc_self hm]
  · have hwin := Cartridge.window_of_none hm a
    rw [window_offset h] at hwin
    exact extRam_of_ite (region_eq_extRam.mpr h) hwin v
  · have hb := Cartridge.romBank_mbc2 hm a
    have hbit : a.getLsbD 8 = decide (a.toNat / 256 % 2 = 1) := getLsbD_eq_decide a 8
    refine ⟨fun h => write_mbc2 hm (by omega) ?_, fun h => write_mbc2 hm (by omega) ?_, fun h => ?_, fun h => ?_,
      fun h => ?_, fun h => ?_⟩
    · rw [Cartridge.writeMbc2, if_pos h.1, hbit, if_pos (decide_eq_true h.2), Cartridge.bank_or_one 4 (k := 16) rfl]
    · rw [Cartridge.writeMbc2, if_pos h.1, hbit, if_neg (by simp [h.2]), Cartridge.enables_eq]
    · rw [write_mbc2 (m' := m) hm h.2 (if_neg (by omega)), write_mbc_self hm]
    · rw [read_lowRom h, hb, if_neg (by omega), Nat.zero_mul, Nat.zero_add]
    · rw [read_highRom h, hb, if_pos h.1]
    · have hr := region_eq_extRam.mpr h
      have hwin := Cartridge.window_of_mbc2 hm a
      rw [window_offset h, hlen] at hwin
      dsimp only
      split_ifs with he
      · exact extRam_of_nothing hr (hwin.trans (if_pos (.inr he))) v
      · obtain ⟨hread, hwrite⟩ := extRam_of_nibble hr (hwin.trans (if_neg (by simpa using he))) v
        rw [hread, hwrite, toNat_and_0F, and_0F_eq_ofNat]
        exact ⟨rfl, rfl⟩

/-- Settles O33: each range of the bank registers, the bank of each half, and the target of the window. -/
theorem mbc1Banking : Obligations.Mbc1Banking := by
  intro s m a v hm put
  have hb := Cartridge.romBank_mbc1 hm a
  refine ⟨fun h => write_mbc1 hm (by omega) ?_, fun h => write_mbc1 hm (by omega) ?_,
    fun h => write_mbc1 hm (by omega) ?_, fun h => write_mbc1 hm h.2 ?_, fun h => ?_, fun h => ?_, fun h => ?_⟩
  · rw [Cartridge.writeMbc1, if_pos h, Cartridge.enables_eq]
  · rw [Cartridge.writeMbc1, if_neg (by omega), if_pos h.2, Cartridge.bank_or_one 5 (k := 32) rfl]
  · rw [Cartridge.writeMbc1, if_neg (by omega), if_neg (by omega), if_pos h.2, extractLsb'_zero_eq_ofNat]
  · rw [Cartridge.writeMbc1, if_neg (by omega), if_neg (by omega), if_neg (by omega), getLsbD_eq_decide]
    simp only [Nat.pow_zero, Nat.div_one, decide_eq_true_eq]
  · rw [read_lowRom h, hb, if_neg (by omega)]
  · rw [read_highRom h, hb, if_pos h.1]
  · have hwin := Cartridge.window_of_mbc1 hm a
    rw [window_offset h] at hwin
    exact extRam_of_ite (region_eq_extRam.mpr h) hwin v

/-- Settles O34: each range of the bank registers, the bank of each half, and the target of the window, which the RAM
bank register chooses. -/
theorem mbc3Banking : Obligations.Mbc3Banking := by
  intro s m a v hm put
  have hb := Cartridge.romBank_mbc3 hm a
  refine ⟨fun h => write_mbc3 hm (by omega) ?_, fun h => write_mbc3 hm (by omega) ?_,
    fun h => write_mbc3 hm (by omega) ?_, fun h => ?_, fun h => ?_, fun h => ?_, fun h => ?_⟩
  · rw [Cartridge.writeMbc3, if_pos h, Cartridge.enables_eq]
  · rw [Cartridge.writeMbc3, if_neg (by omega), if_pos h.2, Cartridge.bank_or_one 7 (k := 128) rfl]
  · rw [Cartridge.writeMbc3, if_neg (by omega), if_neg (by omega), if_pos h.2]
  · have hl : Cartridge.writeMbc3 m a v = Cartridge.latchRtc m v := by
      rw [Cartridge.writeMbc3, if_neg (by omega), if_neg (by omega), if_neg (by omega)]
    rw [write_mbc3 hm h.2 hl, Cartridge.latchRtc]
    split_ifs <;> rfl
  · rw [read_lowRom h, hb, if_neg (by omega), Nat.zero_mul, Nat.zero_add]
  · rw [read_highRom h, hb, if_pos h.1]
  · have hr := region_eq_extRam.mpr h
    have hwin := Cartridge.window_of_mbc3 hm a
    rw [window_offset h] at hwin
    intro i clock
    by_cases hc : s.cart.extRamLen = 0 ∨ m.ramEnable = false
    · rw [if_pos hc]
      exact extRam_of_nothing hr (hwin.trans (if_pos hc)) v
    rw [if_neg hc] at hwin ⊢
    by_cases h3 : m.ramBank.toNat ≤ 3
    · rw [if_pos h3]
      exact extRam_of_ram hr (hwin.trans (if_pos (by omega))) v
    rw [if_neg h3]
    rw [if_neg (by omega)] at hwin
    have hrtc : ∀ {sel : Byte}, m.ramBank = sel → 0x08 ≤ sel.toNat ∧ sel.toNat ≤ 0x0C → s.cart.window a = .rtc sel := by
      rintro _ rfl hs
      rw [hwin, if_pos hs]
    split_ifs with h8 h9 hA hB hC
    · exact extRam_of_rtc hr hm (hrtc h8 (by decide)) v
    · exact extRam_of_rtc hr hm (hrtc h9 (by decide)) v
    · exact extRam_of_rtc hr hm (hrtc hA (by decide)) v
    · exact extRam_of_rtc hr hm (hrtc hB (by decide)) v
    · exact extRam_of_rtc hr hm (hrtc hC (by decide)) v
    · exact extRam_of_nothing hr (hwin.trans (if_neg (by bv_omega))) v

/-- Settles O35: each range of the bank registers, the bank of each half, and the target of the window. -/
theorem mbc5Banking : Obligations.Mbc5Banking := by
  intro s m a v hm put
  have hb := Cartridge.romBank_mbc5 hm a
  refine ⟨fun h => write_mbc5 hm (by omega) ?_, fun h => write_mbc5 hm (by omega) ?_,
    fun h => write_mbc5 hm (by omega) ?_, fun h => ?_, fun h => ?_, fun h => ?_, fun h => ?_, fun h => ?_⟩
  · rw [Cartridge.writeMbc5, if_pos h, Cartridge.enables_eq]
  · rw [Cartridge.writeMbc5, if_neg (by omega), if_pos h.2, Cartridge.bank_low_byte]
  · rw [Cartridge.writeMbc5, if_neg (by omega), if_neg (by omega), if_pos h.2, Cartridge.bank_high_bit]
  · have hbit : v.getLsbD 3 = decide (v.toNat / 8 % 2 = 1) := getLsbD_eq_decide v 3
    split_ifs with hr <;> refine write_mbc5 hm (by omega) ?_ <;>
      rw [Cartridge.writeMbc5, if_neg (by omega), if_neg (by omega), if_neg (by omega), if_pos h.2]
    · rw [if_pos hr, hbit, Cartridge.three_bank_bits]
    · rw [if_neg hr, Cartridge.four_bank_bits]
  · rw [write_mbc5 (m' := m) hm h.2
      (by rw [Cartridge.writeMbc5, if_neg (by omega), if_neg (by omega), if_neg (by omega), if_neg (by omega)]),
      write_mbc_self hm]
  · rw [read_lowRom h, hb, if_neg (by omega), Nat.zero_mul, Nat.zero_add]
  · rw [read_highRom h, hb, if_pos h.1]
  · have hwin := Cartridge.window_of_mbc5 hm a
    rw [window_offset h] at hwin
    exact extRam_of_ite (region_eq_extRam.mpr h) hwin v

/-! ### The address map -/

/-- Settles O26: one clause for each row of the map. -/
theorem addressMap : Obligations.AddressMap := by
  refine ⟨fun s a => ?_, fun s a v => ?_⟩
  · exact ⟨fun h => read_rom (region_eq_rom.mpr h), fun h => read_vram (region_eq_vram.mpr h),
      fun h => read_extRam (region_eq_extRam.mpr h), fun h => read_wram (region_eq_wram.mpr h),
      fun h => read_echo (region_eq_echo.mpr h), fun h => read_oam (region_eq_oam.mpr h),
      fun h => read_unusable (region_eq_unusable.mpr h), fun h => read_io (region_eq_io.mpr h),
      fun h => read_hram (region_eq_hram.mpr h), fun h => read_ie (region_eq_ie.mpr (BitVec.eq_of_toNat_eq h))⟩
  · exact ⟨fun h => write_rom (region_eq_rom.mpr h) v, fun h => write_vram (region_eq_vram.mpr h) v,
      fun h => write_extRam (region_eq_extRam.mpr h) v, fun h => write_wram (region_eq_wram.mpr h) v,
      fun h => write_echo (region_eq_echo.mpr h) v, fun h => write_oam (region_eq_oam.mpr h) v,
      fun h => write_unusable (region_eq_unusable.mpr h) v, fun h => write_io (region_eq_io.mpr h) v,
      fun h => write_hram (region_eq_hram.mpr h) v,
      fun h => write_ie (region_eq_ie.mpr (BitVec.eq_of_toNat_eq h)) v⟩

/-! ### The registers on the bus -/

/-- Settles O28: each address is a closed term, which the map takes to its register; the unused bits of TAC and IF read
as ones above the stored ones. -/
theorem timerAndInterruptRegistersOnBus : Obligations.TimerAndInterruptRegistersOnBus :=
  ⟨fun s _ => ⟨rfl, rfl, rfl, rfl, rfl, rfl, toNat_append_eq_add 0b11111#5 s.timer.tac, rfl⟩,
    fun s _ => ⟨toNat_append_eq_add 0b111#3 s.irq.ifr, rfl, rfl, rfl⟩⟩

namespace Ppu

theorem toNat_readStat (p : Ppu) :
    p.readStat.toNat = 0x80 + 8 * p.statEn.toNat + (if p.lycFlag then 4 else 0) + p.mode.number := by
  have hm : (BitVec.ofNat 2 p.mode.number).toNat = p.mode.number := by cases p.mode <;> rfl
  have hf : 4 * p.lycFlag.toNat = if p.lycFlag then 4 else 0 := by cases p.lycFlag <;> rfl
  unfold readStat
  rw [toNat_append_eq_add, toNat_append_eq_add, toNat_append_eq_add, BitVec.toNat_ofBool, hm, ← hf,
    show (1#1).toNat = 1 from rfl]
  omega

/-- A write to STAT stores bits 6 to 3. -/
theorem writeStat_eq (p : Ppu) (v : Byte) : p.writeStat v = { p with statEn := BitVec.ofNat 4 (v.toNat / 8) } := by
  unfold writeStat BitVec.extractLsb'
  rw [Nat.shiftRight_eq_div_pow]

end Ppu

/-- Settles O29: each address is a closed term, which the map takes to its register; STAT alone is put together from
several. -/
theorem ppuRegistersOnBus : Obligations.PpuRegistersOnBus := by
  intro s v
  have hstat : s.write 0xFF41 v = { s with ppu := s.ppu.writeStat v } := rfl
  rw [Ppu.writeStat_eq] at hstat
  exact ⟨rfl, s.ppu.toNat_readStat, hstat, rfl, rfl, rfl, rfl, rfl, rfl, rfl, rfl, rfl, rfl, rfl, rfl, rfl, rfl, rfl,
    rfl, rfl, rfl⟩

end Sys2Proof.Machine

/-! PROOFS of the statements of 30_encoding.md: the decoder and the encoder are inverse to each other (O24, O25), the
words and lengths (O23), the undefined opcodes (O20), the fetch of a step (O40), and the loads and the 16-bit arithmetic
with the operand tables that they index (O1, O12). -/

namespace Sys2Proof

/-! ### The operand bytes of an opcode (rule R143) -/

theorem operandCount_le_two : ∀ op : Byte, operandCount op ≤ 2 := by decide

/-- An opcode of the blocks x = 1 and x = 2 (rule R139) has no operand byte. -/
theorem operandCount_of_middle {op : Byte} (h : fieldX op = 1 ∨ fieldX op = 2) : operandCount op = 0 := by
  unfold operandCount
  rcases h with h | h <;> rw [h] <;> rfl

/-- Decoding a list with a first byte, once for all uses: the operand bytes are cut off, or there are too few. -/
theorem decode_cons (op : Byte) (tail : List Byte) :
    decode (op :: tail) =
      if operandCount op ≤ tail.length then
        .ok (decodeOp op ((tail.take (operandCount op)).getD 0 0) ((tail.take (operandCount op)).getD 1 0),
          tail.drop (operandCount op))
      else .error (.truncated op) := by
  have hk := operandCount_le_two op
  simp only [decode]
  generalize operandCount op = k at hk
  interval_cases k
  · rfl
  · cases tail <;> simp
  · rcases tail with _ | ⟨b1, _ | ⟨b2, rest⟩⟩ <;> simp

/-- An opcode byte with the operand bytes it calls for decodes, whatever follows. -/
theorem decode_cons_append {op : Byte} {ops : List Byte} (h : ops.length = operandCount op) (rest : List Byte) :
    decode (op :: ops ++ rest) = .ok (decodeOp op (ops.getD 0 0) (ops.getD 1 0), rest) := by
  rw [List.cons_append, decode_cons, ← h, if_pos (by simp), List.take_left, List.drop_left]

/-! ### Decoding what was encoded -/

/-- An instruction's first byte selects its row, calls for exactly the bytes that follow, and takes the operand from
them. The cases are the rows; in those with a word, the word is the join of its two bytes. -/
theorem encode_eq_cons {i : Instr} (h : i.wellFormed = true) :
    ∃ op ops, encode i = op :: ops ∧ ops.length = operandCount op ∧ decodeOp op (ops.getD 0 0) (ops.getD 1 0) = i := by
  cases i
  case prefixCb => cases h
  case ld_BC_n16 n | ld_ia16_SP n | ld_DE_n16 n | ld_HL_n16 n | ld_SP_n16 n | jp_NZ_a16 n | jp_a16 n | call_NZ_a16 n |
      jp_Z_a16 n | call_Z_a16 n | call_a16 n | jp_NC_a16 n | call_NC_a16 n | jp_C_a16 n | call_C_a16 n | ld_ia16_A n |
      ld_A_ia16 n =>
    exact ⟨_, _, rfl, rfl, congrArg _ (joinBytes_hi_lo n)⟩
  all_goals exact ⟨_, _, rfl, rfl, rfl⟩

/-- Settles O24: the first byte of an instruction says how many of the bytes are its own. -/
theorem decodeOfEncode : Obligations.DecodeOfEncode := by
  intro i rest h
  obtain ⟨op, ops, he, hlen, hi⟩ := encode_eq_cons h
  rw [he, decode_cons_append hlen, hi]

/-- Instructions with the same bytes are equal. -/
theorem encode_injective {i j : Instr} (hi : i.wellFormed = true) (hj : j.wellFormed = true) (h : encode i = encode j) :
    i = j := by
  have hd := decodeOfEncode i [] hi
  rw [h, decodeOfEncode j [] hj] at hd
  simpa using hd.symm

/-! ### The index tables (rules R133, R136) and the fields of an opcode byte (rule R131) -/

theorem number_r8Index {n : Nat} (h : n < 8) : (r8Index n).number = n := by interval_cases n <;> rfl

theorem number_aluIndex {n : Nat} (h : n < 8) : (aluIndex n).number = n := by interval_cases n <;> rfl

theorem number_rotIndex {n : Nat} (h : n < 8) : (rotIndex n).number = n := by interval_cases n <;> rfl

theorem fieldX_lt (op : Byte) : fieldX op < 4 := by have := op.isLt; unfold fieldX; omega

theorem fieldY_lt (op : Byte) : fieldY op < 8 := Nat.mod_lt _ (by decide)

theorem fieldZ_lt (op : Byte) : fieldZ op < 8 := Nat.mod_lt _ (by decide)

/-- A byte is made of its fields. -/
theorem ofNat_fields (op : Byte) : BitVec.ofNat 8 (64 * fieldX op + 8 * fieldY op + fieldZ op) = op := by
  apply BitVec.eq_of_toNat_eq
  have := op.isLt
  simp only [fieldX, fieldY, fieldZ, BitVec.toNat_ofNat]
  omega

/-! ### The bytes of a family of rows, from the columns of rules R138, R139 and R142 -/

theorem encode_ld (dst src : R8) :
    encode (Row.ld dst src) = [BitVec.ofNat 8 (0x40 + 8 * dst.number + src.number)] := by
  cases dst <;> cases src <;> rfl

theorem encode_ldImm (r : R8) (n : Byte) : encode (Row.ldImm r n) = [BitVec.ofNat 8 (0x06 + 8 * r.number), n] := by
  cases r <;> rfl

theorem encode_alu (o : AluOp) (r : R8) :
    encode (Row.alu o r) = [BitVec.ofNat 8 (0x80 + 8 * o.number + r.number)] := by
  cases o <;> cases r <;> rfl

theorem encode_addHl (r : R16) : encode (Row.addHl r) = [BitVec.ofNat 8 (0x09 + 16 * r.number)] := by cases r <;> rfl

theorem encode_incPair (r : R16) : encode (Row.incPair r) = [BitVec.ofNat 8 (0x03 + 16 * r.number)] := by
  cases r <;> rfl

theorem encode_decPair (r : R16) : encode (Row.decPair r) = [BitVec.ofNat 8 (0x0B + 16 * r.number)] := by
  cases r <;> rfl

theorem encode_rot (o : RotOp) (r : R8) :
    encode (Row.rot o r) = [0xCB, BitVec.ofNat 8 (8 * o.number + r.number)] := by
  cases o <;> cases r <;> rfl

theorem encode_bit (b : Fin 8) (r : R8) :
    encode (Row.bit b r) = [0xCB, BitVec.ofNat 8 (0x40 + 8 * b.val + r.number)] := by
  fin_cases b <;> cases r <;> rfl

theorem encode_res (b : Fin 8) (r : R8) :
    encode (Row.res b r) = [0xCB, BitVec.ofNat 8 (0x80 + 8 * b.val + r.number)] := by
  fin_cases b <;> cases r <;> rfl

theorem encode_set (b : Fin 8) (r : R8) :
    encode (Row.set b r) = [0xCB, BitVec.ofNat 8 (0xC0 + 8 * b.val + r.number)] := by
  fin_cases b <;> cases r <;> rfl

/-! ### Encoding what was decoded -/

/-- The block x = 0, place by place of rule R138's table. The immediates are the two bytes of one word. -/
theorem encode_decodeX0 {op : Byte} {y z : Nat} (hy : y < 8) (hz : z < 8) (hop : BitVec.ofNat 8 (8 * y + z) = op)
    (nn : Addr) :
    encode (decodeX0 y z (loByte nn) nn) = op :: [loByte nn, hiByte nn].take (operandCount op) := by
  subst hop
  interval_cases z <;> interval_cases y <;> rfl

/-- The block x = 3, place by place of the tables of rules R140 and R141. -/
theorem encode_decodeX3 {op : Byte} {y z : Nat} (hy : y < 8) (hz : z < 8)
    (hop : BitVec.ofNat 8 (0xC0 + 8 * y + z) = op) (nn : Addr) :
    encode (decodeX3 op y z (loByte nn) nn) = op :: [loByte nn, hiByte nn].take (operandCount op) := by
  subst hop
  interval_cases z <;> interval_cases y <;> rfl

/-- A primary row's bytes are the opcode that selects it and the operand bytes that the opcode calls for. -/
theorem encode_decodePrimary (op : Byte) (nn : Addr) :
    encode (decodePrimary op (loByte nn) (hiByte nn)) = op :: [loByte nn, hiByte nn].take (operandCount op) := by
  have hx := fieldX_lt op
  have hy := fieldY_lt op
  have hz := fieldZ_lt op
  have hop := ofNat_fields op
  unfold decodePrimary
  rw [joinBytes_hi_lo]
  obtain h | h | h | h : fieldX op = 0 ∨ fieldX op = 1 ∨ fieldX op = 2 ∨ fieldX op = 3 := by omega
  all_goals rw [h] at hop ⊢
  · exact encode_decodeX0 hy hz (by simpa using hop) nn
  · simp [encode_ld, number_r8Index hy, number_r8Index hz, operandCount_of_middle (.inl h), hop]
  · simp [encode_alu, number_aluIndex hy, number_r8Index hz, operandCount_of_middle (.inr h), hop]
  · exact encode_decodeX3 hy hz hop nn

/-- A CB row's bytes are 0xCB and the byte that selects it. -/
theorem encode_decodeCb (cb : Byte) : encode (decodeCb cb) = [0xCB, cb] := by
  have hx := fieldX_lt cb
  have hy := fieldY_lt cb
  have hz := fieldZ_lt cb
  have hb : (fieldBit cb).val = fieldY cb := rfl
  have hop := ofNat_fields cb
  unfold decodeCb
  obtain h | h | h | h : fieldX cb = 0 ∨ fieldX cb = 1 ∨ fieldX cb = 2 ∨ fieldX cb = 3 := by omega
  all_goals rw [h] at hop ⊢
  · simpa [encode_rot, number_rotIndex hy, number_r8Index hz] using hop
  · simpa [encode_bit, hb, number_r8Index hz] using hop
  · simpa [encode_res, hb, number_r8Index hz] using hop
  · simpa [encode_set, hb, number_r8Index hz] using hop

/-- What three bytes make has as its bytes those of the three that its opcode calls for. -/
theorem encode_decodeOp (op b1 b2 : Byte) : encode (decodeOp op b1 b2) = op :: [b1, b2].take (operandCount op) := by
  unfold decodeOp
  split_ifs with h
  · subst h
    exact encode_decodeCb b1
  · simpa using encode_decodePrimary op (joinBytes b2 b1)

theorem wellFormed_decodeCb : ∀ cb : Byte, (decodeCb cb).wellFormed = true := by decide

theorem eq_prefixCb_of_not_wellFormed {i : Instr} (h : ¬ i.wellFormed = true) : ∃ cb, i = .prefixCb cb := by
  unfold Instr.wellFormed at h
  split at h
  · exact ⟨_, rfl⟩
  · exact absurd rfl h

/-- Decoding never answers `prefixCb`: only the opcode 0xCB starts its bytes, and there a CB row is answered. -/
theorem wellFormed_decodeOp (op b1 b2 : Byte) : (decodeOp op b1 b2).wellFormed = true := by
  by_contra hw
  obtain ⟨cb, hi⟩ := eq_prefixCb_of_not_wellFormed hw
  have he := encode_decodeOp op b1 b2
  rw [hi] at he
  obtain rfl : 0xCB = op := (List.cons.inj he).1
  exact hw (wellFormed_decodeCb b1)

/-- Padding operand bytes to two and cutting to their number gives them back. -/
theorem take_getD_pair {ops : List Byte} (h : ops.length ≤ 2) : [ops.getD 0 0, ops.getD 1 0].take ops.length = ops := by
  match ops, h with
  | [], _ => rfl
  | [_], _ => rfl
  | [_, _], _ => rfl

/-- Settles O25: decoding cuts off the operand bytes that the opcode calls for, and these with the opcode are the bytes
of the instruction. -/
theorem encodeOfDecode : Obligations.EncodeOfDecode := by
  intro bytes
  rcases bytes with _ | ⟨op, tail⟩
  · rfl
  rw [decode_cons]
  split_ifs with h
  · have hlen : (tail.take (operandCount op)).length = operandCount op := List.length_take_of_le h
    have hops := take_getD_pair (hlen.trans_le (operandCount_le_two op))
    rw [hlen] at hops
    refine ⟨wellFormed_decodeOp .., ?_⟩
    rw [encode_decodeOp, hops, List.cons_append, List.take_append_drop]
  · exact ⟨tail, rfl, Nat.lt_of_not_le h⟩

/-! ### Words and lengths -/

/-- Settles O23: the words are closed terms, and there are 256 opcode bytes. -/
theorem sampleWordsAndLengths : Obligations.SampleWordsAndLengths :=
  ⟨⟨rfl, rfl, rfl, rfl, rfl, rfl, rfl, rfl, rfl, rfl, rfl, rfl, rfl, rfl, rfl, rfl, rfl, rfl, rfl, rfl, rfl⟩, by decide⟩

end Sys2Proof

namespace Sys2Proof.Machine

open State

/-! ### The undefined opcodes (rules R141, R306) -/

/-- The eleven undefined opcode bytes (rule R141). -/
def undefinedBytes : List Byte := [0xD3, 0xDB, 0xDD, 0xE3, 0xE4, 0xEB, 0xEC, 0xED, 0xF4, 0xFC, 0xFD]

/-- The bytes that follow an opcode without operands do not matter. -/
theorem decodeOp_of_no_operand {op : Byte} (h : operandCount op = 0) (b1 b2 : Byte) :
    decodeOp op b1 b2 = decodeOp op 0 0 :=
  encode_injective (wellFormed_decodeOp ..) (wellFormed_decodeOp ..) (by simp [encode_decodeOp, h])

/-- An undefined opcode is its one byte, so a byte that makes it is that byte; the converse is the table at eleven
bytes. -/
theorem decodeOp_mem_undefined (op b1 b2 : Byte) :
    decodeOp op b1 b2 ∈ undefinedOpcodes ↔ op ∈ undefinedBytes := by
  constructor <;> intro h
  · have hb : ∀ i ∈ undefinedOpcodes, (encode i).headD 0 ∈ undefinedBytes := by decide
    simpa [encode_decodeOp] using hb _ h
  · have hc : ∀ op ∈ undefinedBytes, operandCount op = 0 ∧ decodeOp op 0 0 ∈ undefinedOpcodes := by decide
    rw [decodeOp_of_no_operand (hc op h).1]
    exact (hc op h).2

/-- Settles O20. (`undefinedOpcodes` is the list.) -/
theorem undefinedOpcodes_lock : Obligations.UndefinedOpcodes :=
  ⟨fun s _ h => exec_undefined h s, decodeOp_mem_undefined, by decide⟩

/-! ### The fetch of a step (rules R322, R323) -/

/-- At most two operand bytes, from PC on. -/
theorem State.fetchBytes_eq_take {n : Nat} (h : n ≤ 2) (s : State) :
    fetchBytes n s = ([s.read s.cpu.pc, s.read (s.cpu.pc + 1)].take n, s.setPc (s.cpu.pc + BitVec.ofNat 16 n)) := by
  rw [fetchBytes_eq]
  interval_cases n <;> simp [List.range_succ]

/-- The fetch of an instruction is the decoding of the opcode byte fetched and the two bytes where PC then is, and PC
moves past the operand bytes that decoding takes. -/
theorem State.fetched_of_decode {s u : State} {op : Byte} {i : Instr} {rest : List Byte}
    (hf : s.fetchOpcode = (op, u)) (hd : decode [op, u.read u.cpu.pc, u.read (u.cpu.pc + 1)] = .ok (i, rest)) :
    rest.length ≤ 2 ∧ s.fetched = (i, u.setPc (u.cpu.pc + BitVec.ofNat 16 (2 - rest.length))) := by
  have hk := operandCount_le_two op
  rw [decode_cons, if_pos (show _ ≤ [_, _].length from hk)] at hd
  obtain ⟨hi, hr⟩ := Prod.mk.inj (Except.ok.inj hd)
  have hlen : rest.length = 2 - operandCount op := by rw [← hr, List.length_drop]; rfl
  refine ⟨by omega, ?_⟩
  unfold fetched
  rw [hf, ← hi, show 2 - rest.length = operandCount op by omega]
  simp only [fetchBytes_eq_take hk]

/-- A step that executes, once its fetch and its instruction's next state are known. -/
theorem step_of_fetched {s t u v : State} {i : Instr} (h : s.cpuAction = .execute t) (hf : t.fetched = (i, u))
    (hv : exec i u = .next v) : step s = .next (v.retire t.cpu.imeEnableAfter).advance := by
  unfold step
  rw [h]
  simp only [hf, hv]

/-- Settles O40: the bytes decoded are the ones fetched; with the HALT bug waiting PC has not moved when the operand
bytes are read (rule R323). -/
theorem stepRunsDecodedInstruction : Obligations.StepRunsDecodedInstruction := by
  intro s t i rest h finish pc
  refine ⟨fun hb hd => ?_, fun hb hd => ?_⟩
  · rw [show pc + 2 = pc + 1 + 1 from (add_assoc pc 1 1).symm] at hd
    obtain ⟨hr, hf⟩ := fetched_of_decode (fetchOpcode_plain hb) hd
    have hpc : pc + 1 + BitVec.ofNat 16 (2 - rest.length) = pc + BitVec.ofNat 16 (3 - rest.length) := by
      apply BitVec.eq_of_toNat_eq
      simp
      omega
    have hu : (t.setPc (pc + 1)).setPc (pc + 1 + BitVec.ofNat 16 (2 - rest.length)) =
        { t with cpu.pc := pc + BitVec.ofNat 16 (3 - rest.length) } := by
      rw [hpc]
      rfl
    obtain ⟨v, hv, -⟩ := exec_shape i { t with cpu.pc := pc + BitVec.ofNat 16 (3 - rest.length) }
    rw [hv]
    exact step_of_fetched h (hf.trans (congrArg (Prod.mk i) hu)) hv
  · obtain ⟨-, hf⟩ := fetched_of_decode (fetchOpcode_bug hb) hd
    obtain ⟨v, hv, -⟩ :=
      exec_shape i { t with cpu.pc := pc + BitVec.ofNat 16 (2 - rest.length), cpu.haltBug := false }
    rw [hv]
    exact step_of_fetched h hf hv

/-! ### 8-bit loads (rules R133, R161 to R165) -/

/-- A register operand takes the cycles of the register form. -/
theorem cost_of_register {r : R8} (h : r ≠ .indHL) (m n : Nat) : r.cost m n = m := by
  cases r
  case indHL => exact absurd rfl h
  all_goals rfl

/-- Settles O1: the shared operations of LD at a register operand and at the byte at HL; the tables are closed terms. -/
theorem eightBitLoads : Obligations.EightBitLoads := by
  refine ⟨fun dst src s hd hs => ⟨encode_ld dst src, ?_⟩, fun r s hr => ⟨?_, ?_, ?_, ?_⟩,
    fun r n s => ⟨encode_ldImm r n, fun hr => ?_, rfl, rfl⟩, fun s v => ?_, rfl, rfl⟩
  · rw [exec_ld dst src (fun h => hd h.1), ldR8, cost_of_register hd, cost_of_register hs]; rfl
  · rw [encode_ld, Nat.add_right_comm]; rfl
  · rw [exec_ld r .indHL (fun h => hr h.1), ldR8, cost_of_register hr]; rfl
  · rw [encode_ld]; rfl
  · rw [exec_ld .indHL r (fun h => hr h.2), ldR8]; rfl
  · rw [exec_ldImm, ldR8Imm, cost_of_register hr]; rfl
  · exact ⟨rfl, rfl, rfl, rfl, rfl, rfl, rfl, rfl, rfl, rfl, rfl, rfl, rfl, rfl, rfl, rfl, rfl⟩

/-! ### 16-bit arithmetic (rules R134, R240 to R242) -/

theorem exec_addHl (r : R16) (s : State) : exec (Row.addHl r) s = .next (s.addHl r) := by cases r <;> rfl

/-- Settles O12: the operations of the pair families; the tables are closed terms. A decrement is the addition of
65535. -/
theorem wordArithmetic : Obligations.WordArithmetic := by
  refine ⟨fun r s => ⟨exec_addHl r s, ?_, ?_, encode_addHl r, encode_incPair r, encode_decPair r⟩, fun s v => ?_, rfl,
    rfl⟩
  · exact exec_incPair r s
  · rw [exec_decPair, decPair, BitVec.sub_eq_add_neg]; rfl
  · exact ⟨rfl, rfl, rfl, rfl, rfl, rfl, rfl, rfl, rfl⟩

end Sys2Proof.Machine

namespace Sys2Proof.Machine

open State

/-! ### A through the pairs and at an address (rules R166 to R179) -/

/-- A bus write leaves the registers, so HL is stepped from its value before the store. -/
theorem storePointer_eq (s : State) (p : R16Mem) :
    s.storePointer p = { s.write (s.memPointer p) s.cpu.a with cpu := (s.bumpPointer p).cpu, cycles := 8 } := by
  have hcpu := write_cpu s (s.memPointer p) s.cpu.a
  cases p <;> simp only [storePointer, bumpPointer, setHl, spend, hl, hcpu]

/-- Settles O2: the two pointer operations at each pair. With HL as the pointer the store comes before the step. -/
theorem loadAndStoreThroughPairs : Obligations.LoadAndStoreThroughPairs := by
  refine ⟨fun s => ⟨exec_loadMem .bc s, exec_loadMem .de s, exec_storeMem .bc s, exec_storeMem .de s, rfl, rfl, rfl, rfl⟩,
    fun s => ⟨?_, ?_, exec_loadMem .hlInc s, exec_loadMem .hlDec s, rfl, rfl, rfl, rfl⟩⟩
  · exact (exec_storeMem .hlInc s).trans (congrArg _ (storePointer_eq s .hlInc))
  · exact (exec_storeMem .hlDec s).trans (congrArg _ (storePointer_eq s .hlDec))

/-- Rule R137: joining 0xFF with the byte is the sum. -/
theorem highPage_eq (n : Byte) : highPage n = BitVec.ofNat 16 (0xFF00 + n.toNat) := by
  have hn := n.isLt
  apply BitVec.eq_of_toNat_eq
  rw [highPage, toNat_joinBytes, BitVec.toNat_ofNat, Nat.mod_eq_of_lt (by omega)]
  rfl

/-- Settles O3: the loads and stores of A, at an address of the high page for the LDH forms. -/
theorem loadAndStoreAtAddress : Obligations.LoadAndStoreAtAddress := by
  intro s a n
  rw [← highPage_eq n, ← highPage_eq s.cpu.c]
  exact ⟨rfl, rfl, rfl, rfl, rfl, rfl, rfl, rfl, rfl, rfl, rfl, rfl⟩

end Sys2Proof.Machine

/-! PROOFS of the statements of 41_load16_stack.md: the 16-bit loads (O4), SP plus an offset (O5), PUSH and POP (O6), and
the round trips over a stack in work RAM (O58). -/

namespace Sys2Proof.Machine

open State

/-! ### 16-bit loads (rules R190 to R193, R243) -/

theorem encode_ldPair (r : R16) (n : Addr) :
    encode (Row.ldPair r n) = [BitVec.ofNat 8 (0x01 + 16 * r.number), loByte n, hiByte n] := by
  cases r <;> rfl

/-- Settles O4: the loads are those of the pair family, and the store of SP is a word store, which is the statement's two
writes by definition. -/
theorem loadAndStoreWords : Obligations.LoadAndStoreWords := fun s n =>
  ⟨fun r => encode_ldPair r n, exec_ldPair .bc n s, exec_ldPair .de n s, exec_ldPair .hl n s, exec_ldPair .sp n s, rfl,
    rfl, rfl, rfl⟩

/-- Settles O5: both instructions take their sum and flags from `spOffsetFlags`, whose body is the statement's sum and
flags. -/
theorem stackPointerPlusOffset : Obligations.StackPointerPlusOffset := fun _ _ => ⟨rfl, rfl, rfl, rfl⟩

/-! ### The stack instructions (rules R194 to R197) -/

theorem encode_push (r : R16Stk) : encode (Row.push r) = [BitVec.ofNat 8 (0xC5 + 16 * r.number)] := by
  cases r <;> rfl

theorem encode_pop (r : R16Stk) : encode (Row.pop r) = [BitVec.ofNat 8 (0xC1 + 16 * r.number)] := by
  cases r <;> rfl

namespace State

theorem setBc_joinBytes (s : State) (hi lo : Byte) :
    s.setBc (joinBytes hi lo) = { s with cpu.b := hi, cpu.c := lo } := by
  rw [setBc, hiByte_joinBytes, loByte_joinBytes]

theorem setDe_joinBytes (s : State) (hi lo : Byte) :
    s.setDe (joinBytes hi lo) = { s with cpu.d := hi, cpu.e := lo } := by
  rw [setDe, hiByte_joinBytes, loByte_joinBytes]

theorem setHl_joinBytes (s : State) (hi lo : Byte) :
    s.setHl (joinBytes hi lo) = { s with cpu.h := hi, cpu.l := lo } := by
  rw [setHl, hiByte_joinBytes, loByte_joinBytes]

theorem setAf_joinBytes (s : State) (hi lo : Byte) :
    s.setAf (joinBytes hi lo) = { s with cpu.a := hi, cpu.flags := Flags.ofByte lo } := by
  rw [setAf, hiByte_joinBytes, loByte_joinBytes]

/-- PUSH of a pair whose two registers are known. -/
theorem pushPair_eq {s : State} {r : R16Stk} {hi lo : Byte} (h : s.readStk r = joinBytes hi lo) :
    s.pushPair r =
      { (s.write (s.cpu.sp - 2) lo).write (s.cpu.sp - 1) hi with
        cpu := { s.cpu with sp := s.cpu.sp - 2 }, cycles := 16 } := by
  rw [pushPair, h, push16_eq, loByte_joinBytes, hiByte_joinBytes]
  rfl

end State

/-- The next state of a POP, from what its pair takes of the word read. -/
theorem exec_pop_eq (r : R16Stk) (s : State) {t : State}
    (h : (s.setSp (s.cpu.sp + 2)).writeStk r (joinBytes (s.read (s.cpu.sp + 1)) (s.read s.cpu.sp)) = t) :
    exec (Row.pop r) s = .next (t.spend 12) := h ▸ exec_pop r s

/-- Settles O6: a push stores the two bytes that its pair is joined from, a pop splits the word that it has joined. -/
theorem pushAndPop : Obligations.PushAndPop := by
  refine ⟨fun s => ⟨?_, ?_, ?_, ?_, encode_push⟩, fun s => ⟨?_, ?_, ?_, ?_, encode_pop⟩⟩
  · exact (exec_push .bc s).trans (congrArg _ (pushPair_eq rfl))
  · exact (exec_push .de s).trans (congrArg _ (pushPair_eq rfl))
  · exact (exec_push .hl s).trans (congrArg _ (pushPair_eq rfl))
  · exact (exec_push .af s).trans (congrArg _ (pushPair_eq rfl))
  · exact exec_pop_eq .bc s (setBc_joinBytes ..)
  · exact exec_pop_eq .de s (setDe_joinBytes ..)
  · exact exec_pop_eq .hl s (setHl_joinBytes ..)
  · exact exec_pop_eq .af s (setAf_joinBytes ..)

/-! ### The stack in work RAM -/

theorem isWorkRam_iff {a : Addr} :
    isWorkRam a = true ↔ region a = .wram ∨ region a = .echo ∨ region a = .hram := by
  simp [isWorkRam, or_assoc]

/-- The keys of work RAM with their ranges: an echo address has that of the byte it mirrors, any other its own. -/
theorem memKey_workRam {a : Addr} (h : isWorkRam a = true) :
    (memKey a = a.toNat - 0x2000 ∧ 0xE000 ≤ a.toNat ∧ a.toNat < 0xFE00) ∨
      (memKey a = a.toNat ∧ (0xC000 ≤ a.toNat ∧ a.toNat < 0xE000 ∨ 0xFF80 ≤ a.toNat ∧ a.toNat < 0xFFFF)) := by
  rcases isWorkRam_iff.mp h with hr | hr | hr
  · exact .inr ⟨memKey_of_region hr (by decide), .inl (region_eq_wram.mp hr)⟩
  · exact .inl ⟨memKey_echo hr, region_eq_echo.mp hr⟩
  · exact .inr ⟨memKey_of_region hr (by decide), .inr (region_eq_hram.mp hr)⟩

/-- Two neighbours in work RAM are different bytes: the echo of one is not the other. -/
theorem memKey_succ_ne {a : Addr} (h : isWorkRam a = true) (h' : isWorkRam (a + 1) = true) :
    memKey (a + 1) ≠ memKey a := by
  have hn : (a + 1).toNat = (a.toNat + 1) % 65536 := BitVec.toNat_add a 1
  have ha := memKey_workRam h
  have hb := memKey_workRam h'
  omega

theorem Flags.ofByte_toByte (f : Flags) : Flags.ofByte f.toByte = f := by
  obtain ⟨z, n, h, cy⟩ := f
  revert z n h cy
  decide

namespace State

theorem read_workRam {a : Addr} (h : isWorkRam a = true) (s : State) : s.read a = Store.get s.mem (memKey a) := by
  unfold read readWith
  rcases isWorkRam_iff.mp h with hr | hr | hr <;> rw [hr]

theorem write_workRam {a : Addr} (h : isWorkRam a = true) (s : State) (v : Byte) : s.write a v = s.setMem a v := by
  unfold write
  rcases isWorkRam_iff.mp h with hr | hr | hr <;> rw [hr]

/-- A word in work RAM reads back as it was stored, from any state with the memory that the store left. -/
theorem readWord_of_writeWord {s t : State} {a v : Addr} (h : isWorkRam a = true) (h' : isWorkRam (a + 1) = true)
    (hm : t.mem = (s.writeWord a v).mem) : t.readWord a = v := by
  have hmem : t.mem = Store.set (Store.set s.mem (memKey a) (loByte v)) (memKey (a + 1)) (hiByte v) := by
    rw [hm, writeWord, write_workRam h, write_workRam h']
    rfl
  rw [readWord, read_workRam h, read_workRam h', hmem, Store.get_set_same,
    Store.get_set_other _ _ (memKey_succ_ne h h'), Store.get_set_same, joinBytes_hi_lo]

/-- What was pushed on a stack in work RAM is popped from any state with the memory and the SP that the push left, and
SP is then as before the push. -/
theorem pop16_of_push16 {s t : State} {v : Addr} (h : isWorkRam (s.cpu.sp - 2) = true)
    (h' : isWorkRam (s.cpu.sp - 1) = true) (hm : t.mem = (s.push16 v).mem) (hsp : t.cpu.sp = s.cpu.sp - 2) :
    t.pop16 = (v, t.setSp s.cpu.sp) := by
  have e : s.cpu.sp - 2 + 1 = s.cpu.sp - 1 := by bv_omega
  rw [pop16, hsp, readWord_of_writeWord h (e ▸ h') hm, BitVec.sub_add_cancel]

/-- A pair written with its own value stays as it was. -/
theorem writeStk_readStk_cpu {s t : State} (h : t.cpu = s.cpu) (r : R16Stk) :
    (t.writeStk r (s.readStk r)).cpu = s.cpu := by
  cases r <;> simp [writeStk, readStk, bc, de, hl, af, f, h, Flags.ofByte_toByte]

end State

theorem exec_pop_of_push {r : R16Stk} {s t u : State} (h : isWorkRam (s.cpu.sp - 2) = true)
    (h' : isWorkRam (s.cpu.sp - 1) = true) (ht : exec (Row.push r) s = .next t) (hu : exec (Row.pop r) t = .next u) :
    u.cpu = s.cpu := by
  obtain rfl := Host.Outcome.next.inj ((exec_push r s).symm.trans ht)
  obtain rfl := Host.Outcome.next.inj ((exec_pop r _).symm.trans hu)
  have hcpu : (s.pushPair r).cpu = { s.cpu with sp := s.cpu.sp - 2 } := push16_cpu s _
  have hpop : (s.pushPair r).pop16 = (s.readStk r, (s.pushPair r).setSp s.cpu.sp) :=
    pop16_of_push16 h h' rfl (by rw [hcpu])
  rw [popPair, hpop]
  exact writeStk_readStk_cpu (by rw [setSp_cpu, hcpu]) r

theorem exec_ret_of_call {a : Addr} {s t u : State} (h : isWorkRam (s.cpu.sp - 2) = true)
    (h' : isWorkRam (s.cpu.sp - 1) = true) (ht : exec (.call_a16 a) s = .next t) (hu : exec .ret t = .next u) :
    u.cpu = s.cpu := by
  obtain rfl : s.call a 24 = t := Host.Outcome.next.inj ht
  obtain rfl : (s.call a 24).ret 16 = u := Host.Outcome.next.inj hu
  have hcpu : (s.call a 24).cpu = { s.cpu with sp := s.cpu.sp - 2, pc := a } := by simp [call]
  have hpop : (s.call a 24).pop16 = (s.cpu.pc, (s.call a 24).setSp s.cpu.sp) := pop16_of_push16 h h' rfl (by rw [hcpu])
  simp [ret, hpop, hcpu]

theorem exec_reti_of_service {s u : State} {q : IrqSource} (h : isWorkRam (s.cpu.sp - 2) = true)
    (h' : isWorkRam (s.cpu.sp - 1) = true) (hu : exec .reti (s.serviceInterrupt q) = .next u) :
    u.cpu = { s.cpu with ime := true, imeEnableAfter := .none, halt := false, haltBug := false } := by
  obtain rfl : (s.serviceInterrupt q).returnFromInterrupt.spend 16 = u := Host.Outcome.next.inj hu
  have hcpu := s.serviceInterrupt_cpu q
  have hpop : (s.serviceInterrupt q).pop16 = (s.cpu.pc, (s.serviceInterrupt q).setSp s.cpu.sp) :=
    pop16_of_push16
      (s := { s with cpu.ime := false, cpu.imeEnableAfter := .none, cpu.halt := false, cpu.haltBug := false })
      h h' rfl (by rw [hcpu])
  simp [returnFromInterrupt, hpop, hcpu]

/-- Settles O58: each second instruction pops the word that the first pushed, and writes no other register but those
that the first wrote. -/
theorem stackRoundTrips : Obligations.StackRoundTrips :=
  ⟨fun _ _ _ _ => exec_pop_of_push, fun _ _ _ _ => exec_ret_of_call, fun _ _ _ => exec_reti_of_service⟩

end Sys2Proof.Machine

/-! PROOFS of the statements of 42_alu8.md: the arithmetic and logic on A (O7, O8, O9), INC and DEC (O10), DAA, CPL, SCF
and CCF (O11), and the addition of decimals (O59). -/

namespace Sys2Proof.Machine

open State

/-! ### The families of rows: cycles, bytes and next states (rules R210, R219 to R222) -/

theorem cost_eq_ite (r : R8) (m n : Nat) : r.cost m n = if r = .indHL then n else m := by cases r <;> rfl

theorem encode_aluImm (o : AluOp) (n : Byte) :
    encode (Row.aluImm o n) = [BitVec.ofNat 8 (0xC6 + 8 * o.number), n] := by
  cases o <;> rfl

theorem encode_inc (r : R8) : encode (Row.inc r) = [BitVec.ofNat 8 (0x04 + 8 * r.number)] := by cases r <;> rfl

theorem encode_dec (r : R8) : encode (Row.dec r) = [BitVec.ofNat 8 (0x05 + 8 * r.number)] := by cases r <;> rfl

theorem exec_alu (o : AluOp) (r : R8) (s : State) : exec (Row.alu o r) s = .next (s.aluR8 o r) := by
  cases o <;> cases r <;> rfl

theorem exec_aluImm (o : AluOp) (v : Byte) (s : State) : exec (Row.aluImm o v) s = .next (s.aluImm o v) := by
  cases o <;> rfl

theorem exec_inc (r : R8) (s : State) : exec (Row.inc r) s = .next (s.incR8 r) := by cases r <;> rfl

theorem exec_dec (r : R8) (s : State) : exec (Row.dec r) s = .next (s.decR8 r) := by cases r <;> rfl

/-- The next state of `alu A,r8`, from what the computation gives. -/
theorem exec_alu_eq (o : AluOp) (r : R8) (s : State) {a : Byte} {f : Flags}
    (h : aluFlags o s.cpu.a (s.readR8 r) s.cpu.flags = (a, f)) :
    exec (Row.alu o r) s = .next { s with cpu.a := a, cpu.flags := f, cycles := if r = .indHL then 8 else 4 } := by
  rw [exec_alu, aluR8, aluA, h, cost_eq_ite]; rfl

/-- The next state of `alu A,n8`, from what the computation gives. -/
theorem exec_aluImm_eq (o : AluOp) (v : Byte) (s : State) {a : Byte} {f : Flags}
    (h : aluFlags o s.cpu.a v s.cpu.flags = (a, f)) :
    exec (Row.aluImm o v) s = .next { s with cpu.a := a, cpu.flags := f, cycles := 8 } := by
  rw [exec_aluImm, State.aluImm, aluA, h]; rfl

/-! ### Arithmetic and logic on A (rules R211 to R218) -/

/-- Settles O7: the computation of ADD and ADC is the sum of the statement as it stands. -/
theorem addAndAddWithCarry : Obligations.AddAndAddWithCarry := fun s =>
  ⟨fun r => ⟨exec_alu_eq .add r s rfl, exec_alu_eq .adc r s rfl, encode_alu .add r, encode_alu .adc r⟩,
    fun v => ⟨exec_aluImm_eq .add v s rfl, exec_aluImm_eq .adc v s rfl, encode_aluImm .add v, encode_aluImm .adc v⟩⟩

/-- Settles O8: the differences and borrows of `subFlags_eq`, of which CP takes the flags alone. -/
theorem subtractAndCompare : Obligations.SubtractAndCompare := by
  intro s
  have hcp (v : Byte) : aluFlags .cp s.cpu.a v s.cpu.flags = (s.cpu.a, _) :=
    congrArg (fun r => (s.cpu.a, r.2)) (subFlags_eq s.cpu.a v false)
  exact ⟨fun r => ⟨exec_alu_eq .sub r s (subFlags_eq ..), exec_alu_eq .sbc r s (subFlags_eq ..),
      exec_alu_eq .cp r s (hcp _), encode_alu .sub r, encode_alu .sbc r, encode_alu .cp r⟩,
    fun v => ⟨exec_aluImm_eq .sub v s (subFlags_eq ..), exec_aluImm_eq .sbc v s (subFlags_eq ..),
      exec_aluImm_eq .cp v s (hcp _), encode_aluImm .sub v, encode_aluImm .sbc v, encode_aluImm .cp v⟩⟩

/-- Settles O9: the three bitwise results with the flags of `logicFlags`. -/
theorem logicOperations : Obligations.LogicOperations := fun s =>
  ⟨fun r => ⟨exec_alu_eq .and r s rfl, exec_alu_eq .xor r s rfl, exec_alu_eq .or r s rfl, encode_alu .and r,
      encode_alu .xor r, encode_alu .or r⟩,
    fun v => ⟨exec_aluImm_eq .and v s rfl, exec_aluImm_eq .xor v s rfl, exec_aluImm_eq .or v s rfl,
      encode_aluImm .and v, encode_aluImm .xor v, encode_aluImm .or v⟩⟩

/-! ### INC and DEC (rules R219 to R222) -/

/-- Settles O10: the steps of `incFlags_eq` and `decFlags_eq`, written back to the operand they were read from. -/
theorem incrementAndDecrementByte : Obligations.IncrementAndDecrementByte := by
  refine fun r s => ⟨?_, ?_, encode_inc r, encode_dec r⟩
  · rw [exec_inc, incR8, incFlags_eq, cost_eq_ite]; rfl
  · rw [exec_dec, decR8, decFlags_eq, cost_eq_ite]; rfl

/-! ### DAA, CPL, SCF, CCF (rules R223 to R226) -/

theorem exec_daa_eq (s : State) : exec .daa s = .next ((s.setAFlags (daaFlags s.cpu.a s.cpu.flags)).spend 4) := rfl

/-- Settles O11: DAA on numbers is `daaFlags_eq`; the other three are as the statement writes them. -/
theorem adjustAndComplement : Obligations.AdjustAndComplement := by
  refine ⟨fun s => ⟨?_, rfl⟩, fun s => ⟨rfl, rfl, rfl, rfl, rfl, rfl⟩⟩
  rw [exec_daa_eq, daaFlags_eq]; rfl

/-! ### Addition of decimals (rules R211, R223) -/

/-- DAA after an ADD of two bytes with decimal low digits: the low digit is adjusted when the digits' sum is above 9, the
high one when the whole sum is above 0x99, and CY says the latter. -/
theorem daaFlags_addFlags {a v : Byte} (ha : a.toNat % 16 ≤ 9) (hv : v.toNat % 16 ≤ 9) :
    let sum := a.toNat + v.toNat
    let adjusted := daaFlags (addFlags a v false).1 (addFlags a v false).2
    adjusted.1 = BitVec.ofNat 8
        (sum + ((if a.toNat % 16 + v.toNat % 16 > 9 then 0x06 else 0) + if sum > 0x99 then 0x60 else 0)) ∧
      adjusted.2.cy = decide (sum > 0x99) := by
  have low : (a.toNat % 16 + v.toNat % 16 > 0x0F ∨ (a.toNat + v.toNat) % 256 % 16 > 9) ↔
      a.toNat % 16 + v.toNat % 16 > 9 := by omega
  have high : (a.toNat + v.toNat > 0xFF ∨ (a.toNat + v.toNat) % 256 > 0x99) ↔ a.toNat + v.toNat > 0x99 := by omega
  simp only [daaFlags_eq, addFlags, lowNibble, bitValue, BitVec.toNat_ofNat, Nat.reducePow, decide_eq_true_eq, true_and,
    Bool.false_eq_true, if_false, Nat.add_zero, low, high, Bool.not_false, Bool.true_and, ← Bool.decide_or, and_true]
  exact BitVec.eq_of_toNat_eq (by simp)

/-- The two-digit BCD of a number below 100. -/
def bcd (n : Nat) : Nat := 16 * (n / 10) + n % 10

theorem bcd_lt {n : Nat} (h : n < 100) : bcd n < 256 := by unfold bcd; omega

theorem bcd_mod_sixteen (n : Nat) : bcd n % 16 = n % 10 := by unfold bcd; omega

theorem bcd_add_bcd_gt_iff (x y : Nat) : bcd x + bcd y > 0x99 ↔ 100 ≤ x + y := by
  unfold bcd; omega

/-- Skipping the six codes that are not digits, in each of the two places where the digits' sum passes 9, makes the sum
of two BCD bytes the BCD of the sum. -/
theorem bcd_add_bcd_adjusted {x y : Nat} (hx : x < 100) (hy : y < 100) :
    BitVec.ofNat 8 (bcd x + bcd y + ((if x % 10 + y % 10 > 9 then 0x06 else 0) + if 100 ≤ x + y then 0x60 else 0)) =
      BitVec.ofNat 8 (16 * ((x + y) / 10 % 10) + (x + y) % 10) := by
  have units : (x + y) % 10 = x % 10 + y % 10 - if x % 10 + y % 10 > 9 then 10 else 0 := by split_ifs <;> omega
  have carry : (x + y) / 10 = x / 10 + y / 10 + if x % 10 + y % 10 > 9 then 1 else 0 := by split_ifs <;> omega
  have tens : (x + y) / 10 % 10 = (x + y) / 10 - if 100 ≤ x + y then 10 else 0 := by split_ifs <;> omega
  apply BitVec.eq_of_toNat_eq
  rw [tens, carry, units, bcd, bcd, BitVec.toNat_ofNat, BitVec.toNat_ofNat]
  split_ifs <;> omega

/-- Settles O59: A and B hold `bcd x` and `bcd y`, so the adjusted sum is the BCD of `x + y` and CY its third digit. -/
theorem bcdAddition : Obligations.BcdAddition := by
  intro s t u x y hx hy ha hb ht hu
  obtain rfl := Host.Outcome.next.inj ((exec_alu .add .b s).symm.trans ht)
  obtain rfl := Host.Outcome.next.inj ((exec_daa_eq _).symm.trans hu)
  have hax : s.cpu.a.toNat = bcd x := by rw [ha]; exact Nat.mod_eq_of_lt (bcd_lt hx)
  have hby : s.cpu.b.toNat = bcd y := by rw [hb]; exact Nat.mod_eq_of_lt (bcd_lt hy)
  have hla : s.cpu.a.toNat % 16 ≤ 9 := by rw [hax, bcd_mod_sixteen]; omega
  have hlb : s.cpu.b.toNat % 16 ≤ 9 := by rw [hby, bcd_mod_sixteen]; omega
  have hdaa := daaFlags_addFlags hla hlb
  simp only [hax, hby, bcd_mod_sixteen, bcd_add_bcd_gt_iff] at hdaa
  exact ⟨hdaa.1.trans (bcd_add_bcd_adjusted hx hy), hdaa.2⟩

end Sys2Proof.Machine

/-! PROOFS of the statements of 44_rotate_shift_bit.md: the rotates, shifts and SWAP (O13), and BIT, RES and SET (O14). -/

namespace Sys2Proof.Machine

open State

/-! ### The rotates and shifts (rules R250 to R261, R265) -/

theorem exec_rot (o : RotOp) (r : R8) (s : State) : exec (Row.rot o r) s = .next (s.rotateR8 o r) := by
  cases o <;> cases r <;> rfl

/-- The next state of a rotate of A, from the number moved and the bit shifted out. -/
theorem rotateA_eq {o : RotOp} {s : State} {w out : Nat}
    (h : shiftBits o s.cpu.a s.cpu.flags.cy = (BitVec.ofNat 8 w, decide (out = 1))) :
    s.rotateA o =
      { s with
        cpu.a := BitVec.ofNat 8 w
        cpu.flags := { z := false, n := false, h := false, cy := decide (out = 1) }
        cycles := 4 } := by
  rw [rotateA, rotAFlags, h]; rfl

/-- The next state of a CB rotate or shift, from the number moved and the bit shifted out. -/
theorem exec_rot_eq {o : RotOp} {r : R8} {s : State} {w out : Nat}
    (h : shiftBits o (s.readR8 r) s.cpu.flags.cy = (BitVec.ofNat 8 w, decide (out = 1))) :
    exec (Row.rot o r) s =
      .next { s.writeR8 r (BitVec.ofNat 8 w) with
        cpu.flags := { z := decide (w % 256 = 0), n := false, h := false, cy := decide (out = 1) }
        cycles := if r = .indHL then 16 else 8 } := by
  rw [exec_rot, rotateR8, rotFlags, h, cost_eq_ite, ← decide_eq_decide.mpr (ofNat_eq_zero w)]; rfl

/-- Settles O13: each operation moves its operand as `shiftBits_eq` says on numbers. -/
theorem rotateAndShift : Obligations.RotateAndShift := by
  refine ⟨fun s => ?_, fun r s => ?_⟩
  · have ha (o : RotOp) := shiftBits_eq o s.cpu.a s.cpu.flags.cy
    exact ⟨congrArg _ (rotateA_eq (ha .rlc)), congrArg _ (rotateA_eq (ha .rrc)), congrArg _ (rotateA_eq (ha .rl)),
      congrArg _ (rotateA_eq (ha .rr)), rfl, rfl, rfl, rfl⟩
  · have hv (o : RotOp) := shiftBits_eq o (s.readR8 r) s.cpu.flags.cy
    exact ⟨exec_rot_eq (hv .rlc), exec_rot_eq (hv .rrc), exec_rot_eq (hv .rl), exec_rot_eq (hv .rr),
      exec_rot_eq (hv .sla), exec_rot_eq (hv .sra), exec_rot_eq (hv .swap), exec_rot_eq (hv .srl),
      fun o => encode_rot o r⟩

/-! ### BIT, RES, SET (rules R262 to R265) -/

theorem exec_bit (b : Fin 8) (r : R8) (s : State) : exec (Row.bit b r) s = .next (s.bitR8 b r) := by
  fin_cases b <;> cases r <;> rfl

/-- The mask of RES and SET has the one bit `b`. -/
theorem getLsbD_one_shiftLeft (b : Fin 8) (i : Nat) : (1#8 <<< b.val).getLsbD i = decide (i = b.val) := by
  rw [← BitVec.twoPow_eq, BitVec.getLsbD_twoPow, decide_eq_true b.isLt, Bool.true_and]
  exact decide_eq_decide.mpr eq_comm

theorem getLsbD_clearBit (v : Byte) (b : Fin 8) {i : Nat} (hi : i < 8) :
    (v &&& ~~~(1#8 <<< b.val)).getLsbD i = (v.getLsbD i && decide (i ≠ b.val)) := by
  rw [BitVec.getLsbD_and, BitVec.getLsbD_not, getLsbD_one_shiftLeft, decide_eq_true hi, Bool.true_and, decide_not]

theorem getLsbD_setBit (v : Byte) (b : Fin 8) (i : Nat) :
    (v ||| 1#8 <<< b.val).getLsbD i = (v.getLsbD i || decide (i = b.val)) := by
  rw [BitVec.getLsbD_or, getLsbD_one_shiftLeft]

/-- Settles O14: BIT as the statement writes it, RES and SET with the operand masked. -/
theorem testResetAndSetBit : Obligations.TestResetAndSetBit := by
  refine fun b r s => ⟨?_, ⟨_, fun i hi => getLsbD_clearBit (s.readR8 r) b hi, ?_⟩,
    ⟨_, fun i _ => getLsbD_setBit (s.readR8 r) b i, ?_⟩, encode_bit b r, encode_res b r, encode_set b r⟩
  · rw [exec_bit, bitR8, cost_eq_ite]; rfl
  · rw [exec_res, resR8, cost_eq_ite]; rfl
  · rw [exec_set, setR8Bit, cost_eq_ite]; rfl

end Sys2Proof.Machine

/-! PROOFS of the statements of 45_control_flow.md: the jumps (O16), the calls (O17) and the returns (O18). -/

namespace Sys2Proof.Machine

open State

/-! ### Jumps (rules R280 to R284, R290) -/

theorem encode_jpCc (cc : Cond) (a : Addr) :
    encode (Row.jpCc cc a) = [BitVec.ofNat 8 (0xC2 + 8 * cc.number), loByte a, hiByte a] := by
  cases cc <;> rfl

theorem encode_jrCc (cc : Cond) (e : Byte) : encode (Row.jrCc cc e) = [BitVec.ofNat 8 (0x20 + 8 * cc.number), e] := by
  cases cc <;> rfl

/-- `sext_16` of rule R9 on numbers: a byte with bit 7 set takes the high byte 0xFF. -/
theorem toNat_sext16 (e : Byte) : (sext16 e).toNat = if e.toNat < 128 then e.toNat else 0xFF00 + e.toNat := by
  have hlt := e.isLt
  rw [sext16, BitVec.toNat_signExtend, BitVec.toNat_setWidth, BitVec.msb_eq_decide]
  simp only [decide_eq_true_eq]
  split_ifs <;> omega

/-- The target of a relative jump on numbers. -/
theorem State.relative_eq (s : State) (e : Byte) :
    s.relative e =
      BitVec.ofNat 16 (s.cpu.pc.toNat + if e.toNat < 128 then e.toNat else 0xFF00 + e.toNat) :=
  BitVec.eq_of_toNat_eq (by rw [relative, BitVec.toNat_add, toNat_sext16, BitVec.toNat_ofNat])

/-- The next state of a conditional jump to a known target. -/
theorem exec_jump_eq {i : Instr} {s : State} {cc : Cond} {a target : Addr} {m n : Nat}
    (h : exec i s = .next (s.jumpIf (s.cond cc) a m n)) (ht : a = target) :
    exec i s =
      if cc.holds s.cpu.flags then .next { s with cpu.pc := target, cycles := m } else .next { s with cycles := n } := by
  subst ht
  exact h.trans (apply_ite _ _ _ _)

/-- Settles O16: the jumps are those of `jumpIf`, the relative ones with the target of `relative_eq`, and the conditions
are the four of rule R290. -/
theorem jumps : Obligations.Jumps := by
  refine ⟨fun s a => ⟨rfl, rfl, fun cc => ⟨exec_jump_eq (exec_jpCc cc a s) rfl, encode_jpCc cc a⟩, rfl, rfl⟩,
    fun s e => ⟨?_, fun cc => ⟨exec_jump_eq (exec_jrCc cc e s) (s.relative_eq e), encode_jrCc cc e⟩, rfl⟩,
    fun f => ?_⟩
  · rw [← s.relative_eq e]; rfl
  · simp [Cond.holds]

/-! ### Calls (rules R285, R286, R291) -/

theorem encode_callCc (cc : Cond) (a : Addr) :
    encode (Row.callCc cc a) = [BitVec.ofNat 8 (0xC4 + 8 * cc.number), loByte a, hiByte a] := by
  cases cc <;> rfl

theorem encode_rst (y : Fin 8) : encode (Row.rst y) = [BitVec.ofNat 8 (0xC7 + 8 * y.val)] := by
  fin_cases y <;> rfl

/-- The next state of a call: PC is stored on the stack as `push16_eq` says, and takes the target. -/
theorem State.call_eq (s : State) (a : Addr) (n : Nat) :
    s.call a n =
      { (s.write (s.cpu.sp - 2) (loByte s.cpu.pc)).write (s.cpu.sp - 1) (hiByte s.cpu.pc) with
        cpu := { s.cpu with sp := s.cpu.sp - 2, pc := a }, cycles := n } := by
  rw [call, push16_eq]; rfl

/-- Settles O17: the calls are those of `call_eq`, a conditional one if its condition holds. -/
theorem calls : Obligations.Calls := by
  refine fun s a => ⟨?_, fun cc => ⟨?_, encode_callCc cc a⟩, fun y => ⟨?_, encode_rst y⟩, rfl⟩
  · exact congrArg _ (s.call_eq a 24)
  · rw [exec_callCc, callIf, call_eq]
    exact apply_ite _ _ _ _
  · rw [exec_rst, call_eq]

/-! ### Returns (rules R287 to R289) -/

theorem encode_retCc (cc : Cond) : encode (Row.retCc cc) = [BitVec.ofNat 8 (0xC0 + 8 * cc.number)] := by
  cases cc <;> rfl

/-- Settles O18: the word popped is the statement's two reads, and a conditional return pops it if its condition
holds. -/
theorem returns : Obligations.Returns :=
  fun s => ⟨rfl, rfl, fun cc => ⟨(exec_retCc cc s).trans (apply_ite _ _ _ _), encode_retCc cc⟩, rfl, rfl⟩

end Sys2Proof.Machine

/-! PROOFS of the statements of 46_cpu_control.md: PREFIX CB (O15), NOP, DI, EI, STOP and HALT (O19), and the delay of EI
(O44). -/

namespace Sys2Proof.Machine

open State

/-! ### PREFIX CB (rule R303) -/

/-- A CB row is executed as the operation that its fields name, which is what PREFIX CB runs. -/
theorem exec_decodeCb (cb : Byte) (s : State) : exec (decodeCb cb) s = .next (s.cbOperation cb) := by
  unfold decodeCb cbOperation
  rcases fieldX cb with _ | _ | _ | _
  · exact exec_rot _ _ s
  · exact exec_bit _ _ s
  · exact exec_res _ _ s
  · exact exec_set _ _ s

/-- Settles O15: both sides run `cbOperation`. -/
theorem prefixCbRunsItsRow : Obligations.PrefixCbRunsItsRow :=
  fun cb s => ⟨rfl, s.cbOperation cb, rfl, exec_decodeCb cb s⟩

/-! ### HALT (rule R304) -/

theorem State.enterHalt_of_masked {s : State} (h : s.cpu.ime = false ∧ s.pending ≠ 0) :
    s.enterHalt = if s.params.haltBug then { s with cpu.haltBug := true } else s :=
  if_pos h

theorem State.enterHalt_of_not_masked {s : State} (h : ¬ (s.cpu.ime = false ∧ s.pending ≠ 0)) :
    s.enterHalt = { s with cpu.halt := true } :=
  if_neg h

theorem exec_halt_eq {s t : State} (h : s.enterHalt = t) : exec .halt s = .next { t with cycles := 4 } := by
  subst h; rfl

/-- Settles O19: HALT goes by the arms of `enterHalt`. -/
theorem cpuControl : Obligations.CpuControl := by
  refine ⟨fun s pad => ⟨rfl, rfl, rfl, rfl, rfl, rfl, rfl, rfl⟩, fun s => ⟨?_, ?_, ?_, rfl⟩⟩
  · rintro ⟨hime, hpend, hbug⟩
    exact exec_halt_eq ((enterHalt_of_masked ⟨hime, hpend⟩).trans (if_pos hbug))
  · rintro ⟨hime, hpend, hbug⟩
    exact exec_halt_eq ((enterHalt_of_masked ⟨hime, hpend⟩).trans (if_neg (by simp [hbug])))
  · exact fun h => exec_halt_eq (enterHalt_of_not_masked h)

/-! ### The delay of EI (rules R302, R322) -/

/-- A CPU that does not idle chooses its action in the registers `running`. -/
theorem State.cpuAction_eq_runningAction (s : State) :
    (∃ u, s.cpuAction = .idle u) ∨ ∃ u : State, u.cpu = s.running ∧ s.cpuAction = u.runningAction := by
  rcases s.cpuAction_cases with ⟨-, e⟩ | ⟨-, -, e⟩ | ⟨-, hs, e⟩
  · exact .inl ⟨_, e⟩
  · exact .inl ⟨_, e⟩
  · exact .inr ⟨_, (wakes_cpu hs).1, e⟩

/-- An instruction is executed in the registers in which the action was chosen. -/
theorem State.cpu_of_execute {s u : State} (h : s.cpuAction = .execute u) : u.cpu = s.running := by
  rcases s.cpuAction_eq_runningAction with ⟨_, e⟩ | ⟨w, hw, e⟩
  · cases h.symm.trans e
  · rcases w.runningAction_cases with ⟨-, -, e'⟩ | ⟨-, -, e'⟩ | ⟨-, -, e'⟩ <;> cases h.symm.trans (e.trans e')
    exact hw

/-- Only with IME set is an interrupt serviced (rule R342). -/
theorem State.ime_of_service {s u : State} {q : IrqSource} (h : s.cpuAction = .service u q) : s.cpu.ime = true := by
  rcases s.cpuAction_eq_runningAction with ⟨_, e⟩ | ⟨w, hw, e⟩
  · cases h.symm.trans e
  · rcases w.runningAction_cases with ⟨hime, -, e'⟩ | ⟨-, -, e'⟩ | ⟨-, -, e'⟩ <;> cases h.symm.trans (e.trans e')
    rwa [hw] at hime

theorem State.fetched_ime (s : State) : s.fetched.2.cpu.ime = s.cpu.ime := by
  obtain ⟨p, h⟩ := s.fetched_frame; rw [h]

theorem State.fetched_imeEnableAfter (s : State) : s.fetched.2.cpu.imeEnableAfter = s.cpu.imeEnableAfter := by
  obtain ⟨p, h⟩ := s.fetched_frame; rw [h]

theorem State.retire_none (s : State) : s.retire .none = s := if_neg fun h => nomatch h.1

theorem State.retire_of_none {s : State} (h : s.cpu.imeEnableAfter = .none) (was : ImeDelay) : s.retire was = s :=
  if_neg (by simp [h])

theorem State.retire_of_waiting {s : State} (h : s.cpu.imeEnableAfter = .nextInstruction) :
    s.retire .nextInstruction = { s with cpu.ime := true, cpu.imeEnableAfter := .none } :=
  if_pos ⟨rfl, h⟩

@[simp] theorem State.enterHalt_imeEnableAfter (s : State) :
    s.enterHalt.cpu.imeEnableAfter = s.cpu.imeEnableAfter := by
  unfold enterHalt; split_ifs <;> rfl

/-- No instruction but DI ends a waiting delay: EI sets it again, the others leave it. -/
theorem exec_keeps_waiting {i : Instr} {s t : State} (h : exec i s = .next t) (hi : i ≠ .di)
    (hw : s.cpu.imeEnableAfter = .nextInstruction) : t.cpu.imeEnableAfter = .nextInstruction := by
  cases hc : controls i with
  | false =>
    obtain ⟨t', e, w, c, n, rfl, -, -, hk, -⟩ := exec_shape i s
    cases Host.Outcome.next.inj (h.symm.trans e)
    have hdelay : c.imeEnableAfter = s.cpu.imeEnableAfter := congrArg (fun x => x.2.1) (hk hc)
    exact hdelay.trans hw
  | true =>
    rcases controls_cases hc with rfl | rfl | rfl | ⟨pad, rfl⟩ | rfl | hu
    · exact absurd rfl hi
    · cases h; rfl
    · cases h; exact s.enterHalt_imeEnableAfter.trans hw
    · cases h; exact hw
    · cases h; exact hw
    · cases Host.Outcome.next.inj (h.symm.trans (exec_undefined hu s)); exact hw

/-- A step that executes EI, with no delay waiting before it, leaves IME and lets the delay wait. -/
theorem step_of_ei {s t u : State} (hst : step s = .next t) (h : s.cpuAction = .execute u) (hi : u.fetched.1 = .ei)
    (hd : s.cpu.imeEnableAfter = .none) :
    t.cpu.ime = s.cpu.ime ∧ t.cpu.imeEnableAfter = .nextInstruction := by
  obtain ⟨v, hv, ht⟩ := step_of_execute hst h
  have hu := cpu_of_execute h
  rw [hu, show s.running.imeEnableAfter = .none from hd, retire_none] at ht
  rw [hi] at hv
  cases hv
  rw [ht]
  exact ⟨u.fetched_ime.trans ((congrArg Cpu.ime hu).trans s.running_ime), rfl⟩

/-- A step that executes an instruction with the delay of EI waiting ends the delay: IME is set, unless the instruction
is DI. -/
theorem step_of_waiting {s t u : State} (hst : step s = .next t) (h : s.cpuAction = .execute u)
    (hw : s.cpu.imeEnableAfter = .nextInstruction) :
    t.cpu.ime = decide (u.fetched.1 ≠ .di) ∧ t.cpu.imeEnableAfter = .none := by
  obtain ⟨v, hv, ht⟩ := step_of_execute hst h
  have hu : u.cpu.imeEnableAfter = .nextInstruction := (congrArg Cpu.imeEnableAfter (cpu_of_execute h)).trans hw
  by_cases hi : u.fetched.1 = .di
  · rw [hi] at hv
    cases hv
    rw [retire_of_none rfl] at ht
    rw [ht, hi]
    exact ⟨rfl, rfl⟩
  · have hv' := exec_keeps_waiting hv hi (u.fetched_imeEnableAfter.trans hu)
    rw [hu, retire_of_waiting hv'] at ht
    rw [ht, decide_eq_true hi]
    exact ⟨rfl, rfl⟩

/-- Settles O44: the step of EI, then the step that ends its delay. -/
theorem eiTakesEffectOneInstructionLate : Obligations.EiTakesEffectOneInstructionLate := by
  intro s u s' h hi hime hd hst
  obtain ⟨hime', hw⟩ := step_of_ei hst h hi hd
  have hime' : s'.cpu.ime = false := hime'.trans hime
  exact ⟨hime', hw, fun _ _ hq => Bool.false_ne_true (hime'.symm.trans (ime_of_service hq)),
    fun _ _ h' hst' => step_of_waiting hst' h' hw⟩

end Sys2Proof.Machine

/-! PROOFS of the statements of 60_exceptions.md: the service sequence (O42) and what the CPU does in a step (O41, O43,
O45, O49), the timer (O52), the frame of the PPU and its requests (O53, O54, O55), the advance of a step (O51), and the
pixels of a line (O56, O57, O60). -/

namespace Sys2Proof.Machine

open State

/-! ### The service sequence (rules R343, R344) -/

/-- The service sequence: PC is pushed, and the request is cleared after the two stores. -/
theorem State.serviceInterrupt_eq (s : State) (q : IrqSource) :
    let w := (s.write (s.cpu.sp - 2) (loByte s.cpu.pc)).write (s.cpu.sp - 1) (hiByte s.cpu.pc)
    s.serviceInterrupt q =
      { w with
        cpu :=
          { s.cpu with
            ime := false, imeEnableAfter := .none, halt := false, haltBug := false
            sp := s.cpu.sp - 2, pc := q.vector }
        irq.ifr := w.irq.ifr &&& ~~~q.mask
        cycles := 20 } := by
  unfold serviceInterrupt
  dsimp only
  rw [push16_with_cpu]
  rfl

/-- The source chosen is pending, and no source with a smaller id is. -/
theorem firstPending_least {pend : BitVec 5} (h : pend ≠ 0) :
    pend.getLsbD (firstPending pend).id = true ∧ ∀ j, j < (firstPending pend).id → pend.getLsbD j = false := by
  revert pend
  decide

/-- The least pending bit is that of the source chosen. -/
theorem firstPending_id {pend : BitVec 5} {k : Nat} (hk : pend.getLsbD k = true)
    (hj : ∀ j, j < k → pend.getLsbD j = false) : (firstPending pend).id = k := by
  obtain ⟨hp, hlt⟩ := firstPending_least (pend := pend) (by rintro rfl; simp at hk)
  rcases Nat.lt_trichotomy (firstPending pend).id k with h | h | h
  · simp [hj _ h] at hp
  · exact h
  · simp [hlt _ h] at hk

/-- Settles O42: the push of `serviceInterrupt_eq`, and the source of `firstPending_least`. -/
theorem serviceSequence : Obligations.ServiceSequence :=
  ⟨State.serviceInterrupt_eq, fun _ => firstPending_least⟩

/-! ### What the CPU does in a step (rules R320, R345) -/

namespace State

/-- The state of a CPU that is not left stopped, with the outside requests landed. -/
def awake (s : State) : State := { s.acceptExt with cpu.stop := false }

variable {s : State}

theorem awake_of_not_stop (h : s.cpu.stop = false) : s.awake = s.acceptExt := by
  unfold awake; rw [← h]; rfl

/-- The stop bit is clear after the test of rule R352, unless the CPU is left stopped. -/
theorem wakeStop_of_up (h : s.cpu.stop = false ∨ s.ext.joypad = true) : s.acceptExt.wakeStop s.ext = s.awake := by
  cases hj : s.ext.joypad with
  | true => exact if_pos hj
  | false => exact (if_neg (by simp [hj])).trans (awake_of_not_stop (h.resolve_right (by simp [hj]))).symm

theorem cpuAction_of_lock (h : s.cpu.lock = true) : s.cpuAction = .idle s.acceptExt := if_pos h

theorem cpuAction_of_stop (hl : s.cpu.lock = false) (hs : s.cpu.stop = true) (hj : s.ext.joypad = false) :
    s.cpuAction = .idle s.acceptExt := by
  unfold cpuAction wakeStop
  simp [hl, hs, hj]

theorem cpuAction_of_up (hl : s.cpu.lock = false) (h : s.cpu.stop = false ∨ s.ext.joypad = true) :
    s.cpuAction = s.awake.wakeHalt.runningAction := by
  unfold cpuAction
  dsimp only
  rw [wakeStop_of_up h, if_neg (by simp [hl]), if_neg (by simp [awake])]

/-- A pending interrupt ends the halt; it is serviced with IME set, else an instruction runs (rules R342, R351). -/
theorem cpuAction_of_pending (hl : s.cpu.lock = false) (h : s.cpu.stop = false ∨ s.ext.joypad = true)
    (hp : s.acceptExt.pending ≠ 0) :
    s.cpuAction =
      if s.cpu.ime then .service { s.awake with cpu.halt := false } (firstPending s.acceptExt.pending)
      else .execute { s.awake with cpu.halt := false } := by
  have hw : s.awake.wakeHalt = { s.awake with cpu.halt := false } := if_pos hp
  rw [cpuAction_of_up hl h, hw]
  cases hi : s.cpu.ime with
  | true => exact if_pos ⟨hi, hp⟩
  | false => exact if_neg fun h' => Bool.false_ne_true (hi.symm.trans h'.1)

/-- With nothing pending a halted CPU idles (rule R350). -/
theorem cpuAction_of_not_pending (hl : s.cpu.lock = false) (h : s.cpu.stop = false ∨ s.ext.joypad = true)
    (hp : s.acceptExt.pending = 0) : s.cpuAction = if s.cpu.halt then .idle s.awake else .execute s.awake := by
  have hw : s.awake.wakeHalt = s.awake := if_neg fun h' => h' hp
  rw [cpuAction_of_up hl h, hw]
  exact if_neg fun h' => h'.2 hp

theorem step_of_cpuAction_idle {u : State} (h : s.cpuAction = .idle u) : step s = .next (u.spend 4).advance := by
  unfold step; rw [h]

theorem step_of_cpuAction_service {u : State} {q : IrqSource} (h : s.cpuAction = .service u q) :
    step s = .next (u.serviceInterrupt q).advance := by
  unfold step; rw [h]

end State

@[simp] theorem State.serviceInterrupt_cycles (s : State) (q : IrqSource) : (s.serviceInterrupt q).cycles = 20 :=
  spend_cycles _ 20

/-- Settles O41: the tests of rule R320 in their order. -/
theorem stepPrecedence : Obligations.StepPrecedence := by
  intro s requested u pend up
  refine ⟨fun hl => ?_, fun hl hs hj => ?_, fun hl h hi hp => ?_, fun hl h hp hh => ?_, fun hl h hi hp => ?_,
    fun hl h hp hh => ?_⟩
  · exact step_of_cpuAction_idle (cpuAction_of_lock hl)
  · exact step_of_cpuAction_idle (cpuAction_of_stop hl hs hj)
  · exact step_of_cpuAction_service ((cpuAction_of_pending hl h hp).trans (if_pos hi))
  · exact step_of_cpuAction_idle ((cpuAction_of_not_pending hl h hp).trans (if_pos hh))
  · exact (cpuAction_of_pending hl h hp).trans (if_neg (by simp [hi]))
  · exact (cpuAction_of_not_pending hl h hp).trans (if_neg (by simp [hh]))

/-- Settles O45: the three actions of a step, an instruction with the cycle bounds of its shape. -/
theorem everyStepGoesOn : Obligations.EveryStepGoesOn := by
  intro s
  rcases step_cases s with ⟨u, h, -, e⟩ | ⟨u, q, h, -, e⟩ | ⟨u, v, h, -, -, hs, e⟩ <;>
    refine ⟨_, e, ?_⟩ <;> rw [advance_cycles, h]
  · rw [spend_cycles]
    simp
  · rw [serviceInterrupt_cycles]
    simp
  · obtain ⟨w, c, n, rfl, -, ⟨h4, h24, hm⟩, -⟩ := hs
    rw [retire_cycles]
    exact ⟨h4, h24, hm, by simp⟩

/-! ### An interrupt is taken (rules R320, R343, R344) -/

namespace State

/-- A word that was read is its two bytes. -/
theorem read_of_readWord {s : State} {a v : Addr} (h : s.readWord a = v) :
    s.read a = loByte v ∧ s.read (a + 1) = hiByte v := by
  subst h
  exact ⟨(loByte_joinBytes _ _).symm, (hiByte_joinBytes _ _).symm⟩

/-- With its stack in work RAM a step that services an interrupt leaves PC on the stack, and IE as it was. -/
theorem advance_serviceInterrupt_stack {s : State} (q : IrqSource) (h : isWorkRam (s.cpu.sp - 2) = true)
    (h' : isWorkRam (s.cpu.sp - 1) = true) :
    let t := (s.serviceInterrupt q).advance
    t.read (s.cpu.sp - 2) = loByte s.cpu.pc ∧ t.read (s.cpu.sp - 1) = hiByte s.cpu.pc ∧ t.irq.ie = s.irq.ie := by
  intro t
  have e : s.cpu.sp - 2 + 1 = s.cpu.sp - 1 := by bv_omega
  have hs : t.mem = (s.writeWord (s.cpu.sp - 2) s.cpu.pc).mem ∧ t.irq.ie = s.irq.ie := by
    rw [advance_mem, advance_ie, serviceInterrupt_eq, writeWord, e, write_workRam h, write_workRam h']
    exact ⟨rfl, rfl⟩
  obtain ⟨hlo, hhi⟩ := read_of_readWord (readWord_of_writeWord h (e ▸ h') hs.1)
  exact ⟨hlo, e ▸ hhi, hs.2⟩

end State

/-- Settles O43: the step is that of a service sequence, which leaves PC on the stack. -/
theorem interruptIsTaken : Obligations.InterruptIsTaken := by
  intro s t k hl hs hi hx hk hp hj hr hr' hst
  have hpend : s.acceptExt.pending = s.irq.ifr &&& s.irq.ie.extractLsb' 0 5 := by
    rw [acceptExt_pending, ext, hx]; simp
  rw [← hpend] at hp hj
  have hne : s.acceptExt.pending ≠ 0 := fun h0 => by rw [h0] at hp; simp at hp
  have ha := (cpuAction_of_pending hl (.inl hs) hne).trans (if_pos hi)
  rw [awake_of_not_stop hs] at ha
  obtain rfl := Host.Outcome.next.inj ((step_of_cpuAction_service ha).symm.trans hst)
  obtain ⟨hlo, hhi, hie⟩ := advance_serviceInterrupt_stack (s := { s.acceptExt with cpu.halt := false })
    (firstPending s.acceptExt.pending) hr hr'
  refine ⟨?_, hlo, hhi, hie, advance_cycles _⟩
  rw [advance_cpu, serviceInterrupt_cpu, IrqSource.vector, firstPending_id hp hj]
  rfl

/-! ### Waits without an end (rules R350, R352, R353) -/

/-- `t` is of the kind `P` that `s` is of, with the registers, memory and IE of `s`. -/
def Waits (P : State → Prop) (s t : State) : Prop := P t ∧ t.cpu = s.cpu ∧ t.mem = s.mem ∧ t.irq.ie = s.irq.ie

theorem run_succ {M : Host.Core} {s u : M.State} {n : Nat} (h : M.step s = .next u) : M.run (n + 1) s = M.run n u := by
  rw [Host.Core.run, h]

/-- A wait that every step keeps is kept by every run. -/
theorem Waits.run {P : State → Prop} (h : ∀ s t, P s → step s = .next t → Waits P s t) {n : Nat} {s t : State}
    (hrun : core.run n s = .next t) (hs : P s) : Waits P s t := by
  induction n generalizing s with
  | zero =>
    obtain rfl := Host.Outcome.next.inj hrun
    exact ⟨hs, rfl, rfl, rfl⟩
  | succ n ih =>
    obtain ⟨u, hu, -⟩ := everyStepGoesOn s
    have hrun : core.run n u = .next t := (run_succ (M := core) hu).symm.trans hrun
    obtain ⟨hPu, hcpu, hmem, hie⟩ := h s u hs hu
    obtain ⟨hPt, hcpu', hmem', hie'⟩ := ih hrun hPu
    exact ⟨hPt, hcpu'.trans hcpu, hmem'.trans hmem, hie'.trans hie⟩

/-- An idle step leaves registers, memory and IE, and takes the next outside requests. -/
theorem idle_frame {s t u : State} (hst : step s = .next t) (h : s.cpuAction = .idle u) :
    t.cpu = u.cpu ∧ t.mem = u.mem ∧ t.irq.ie = u.irq.ie ∧ t.extIrq = u.extIrq := by
  obtain rfl := Host.Outcome.next.inj ((step_of_cpuAction_idle h).symm.trans hst)
  exact ⟨advance_cpu _, advance_mem _, advance_ie _, advance_extIrq _⟩

theorem State.Locked.step {s t : State} (hs : s.Locked) (hst : step s = .next t) : Waits State.Locked s t := by
  obtain ⟨hcpu, hmem, hie, -⟩ := idle_frame hst (cpuAction_of_lock hs)
  exact ⟨(congrArg Cpu.lock hcpu).trans hs, hcpu, hmem, hie⟩

theorem State.StuckInStop.step {s t : State} (hs : s.StuckInStop) (hst : step s = .next t) :
    Waits State.StuckInStop s t := by
  obtain ⟨hl, hstop, hx⟩ := hs
  have hj : s.ext.joypad = false := by
    unfold ext
    cases he : s.extIrq with
    | nil => rfl
    | cons x l => exact hx x (by simp [he])
  obtain ⟨hcpu, hmem, hie, hext⟩ := idle_frame hst (cpuAction_of_stop hl hstop hj)
  refine ⟨⟨(congrArg Cpu.lock hcpu).trans hl, (congrArg Cpu.stop hcpu).trans hstop, fun x h => ?_⟩, hcpu, hmem, hie⟩
  rw [hext] at h
  exact hx x (List.mem_of_mem_tail h)

theorem State.StuckInHalt.step {s t : State} (hs : s.StuckInHalt) (hst : step s = .next t) :
    Waits State.StuckInHalt s t := by
  obtain ⟨hl, hstop, hh, he⟩ := hs
  have hp : s.acceptExt.pending = 0 := by rw [acceptExt_pending, he]; exact BitVec.and_zero
  have ha := (cpuAction_of_not_pending hl (.inl hstop) hp).trans (if_pos hh)
  obtain ⟨hcpu, hmem, hie, -⟩ := idle_frame hst ha
  have hcpu : t.cpu = s.cpu := by rw [hcpu, awake_of_not_stop hstop, acceptExt_cpu]
  refine ⟨?_, hcpu, hmem, hie⟩
  unfold StuckInHalt
  rw [hcpu, hie]
  exact ⟨hl, hstop, hh, he⟩

/-- Settles O49: each wait is kept by a step. -/
theorem endlessWaits : Obligations.EndlessWaits := fun _ _ _ hrun =>
  ⟨Waits.run (fun _ _ => State.Locked.step) hrun, Waits.run (fun _ _ => State.StuckInHalt.step) hrun,
    Waits.run (fun _ _ => State.StuckInStop.step) hrun⟩

/-- The mask of a source is its bit of IF (rule R340). -/
theorem IrqSource.getLsbD_mask (q : IrqSource) (i : Nat) : q.mask.getLsbD i = true ↔ i = q.id := by
  have hid : q.id < 5 := by cases q <;> decide
  rw [show q.mask = BitVec.twoPow 5 q.id from rfl, BitVec.getLsbD_twoPow]
  simp
  omega

/-! ### Ticks of the timer (rules R361 to R364) -/

namespace Timer

variable {t : Timer}

theorem ticks_succ (n : Nat) (t : Timer) : ticks (n + 1) t = (ticks n t).tick.1 := by
  induction n generalizing t with
  | zero => rfl
  | succ n ih => exact ih t.tick.1

theorem ticks_add (m n : Nat) (t : Timer) : ticks (m + n) t = ticks n (ticks m t) := by
  induction n with
  | zero => rfl
  | succ n ih => rw [← Nat.add_assoc, ticks_succ, ticks_succ, ih]

theorem ticks_div (n : Nat) (t : Timer) : (ticks n t).div = t.div + BitVec.ofNat 16 n := by
  induction n with
  | zero => simp [ticks]
  | succ n ih =>
    rw [ticks_succ, tick_div, ih, BitVec.add_assoc]
    exact congrArg _ (BitVec.ofNat_add n 1).symm

@[simp] theorem ticks_tma (n : Nat) (t : Timer) : (ticks n t).tma = t.tma := by
  induction n with
  | zero => rfl
  | succ n ih => rw [ticks_succ, tick_tma, ih]

@[simp] theorem ticks_tac (n : Nat) (t : Timer) : (ticks n t).tac = t.tac := by
  induction n with
  | zero => rfl
  | succ n ih => rw [ticks_succ, tick_tac, ih]

/-- A tick requests the Timer interrupt where it reloads TIMA, and nothing else. -/
theorem tick_request (t : Timer) (i : Nat) : t.tick.2.getLsbD i = true ↔ i = 2 ∧ t.reload = 1 := by
  have hmask : IrqSource.timer.mask.getLsbD i = true ↔ i = 2 := IrqSource.timer.getLsbD_mask i
  unfold tick
  dsimp only
  split_ifs with h <;> simp [h, hmask]

theorem period_dvd_65536 (t : Timer) : t.period ∣ 65536 := by
  unfold period; split <;> decide

theorem period_pos (t : Timer) : 0 < t.period := Nat.pos_of_dvd_of_pos t.period_dvd_65536 (by decide)

/-- The wrap of `div` is a multiple of the period. -/
theorem div_add_mod_period (t : Timer) (n : Nat) :
    (t.div + BitVec.ofNat 16 n).toNat % t.period = (t.div.toNat + n) % t.period := by
  rw [BitVec.toNat_add, BitVec.toNat_ofNat, Nat.mod_mod_of_dvd _ t.period_dvd_65536, Nat.add_mod,
    Nat.mod_mod_of_dvd _ t.period_dvd_65536, ← Nat.add_mod]

theorem div_add_succ (d : BitVec 16) (n : Nat) : d + BitVec.ofNat 16 n + 1 = d + BitVec.ofNat 16 (n + 1) := by
  rw [BitVec.ofNat_add, ← BitVec.add_assoc]; rfl

/-- With no reload pending a tick is that of `div`. -/
theorem tick_of_idle (hr : t.reload = 0) : t.tick.1 = t.countDiv := by
  have h : t.countReload = t := if_pos hr
  unfold tick
  rw [h]

/-- Where TIMA is disabled, or `div` becomes no multiple of the period, TIMA stays (rule R361). -/
theorem countDiv_of_quiet (h : t.enabled = true → (t.div + 1).toNat % t.period ≠ 0) :
    t.countDiv = { t with div := t.div + 1 } := by
  refine if_neg fun hc => ?_
  rw [Bool.and_eq_true, decide_eq_true_eq] at hc
  exact h hc.1 hc.2

/-- Where `div` becomes a multiple of the period, an enabled TIMA steps. -/
theorem tick_of_step (he : t.enabled = true) (hr : t.reload = 0) (h : (t.div + 1).toNat % t.period = 0) :
    t.tick.1 = ({ t with div := t.div + 1 } : Timer).stepTima := by
  refine (tick_of_idle hr).trans (if_pos ?_)
  rw [Bool.and_eq_true, decide_eq_true_eq]
  exact ⟨he, h⟩

theorem tick_of_quiet (hr : t.reload = 0) (h : t.enabled = true → (t.div + 1).toNat % t.period ≠ 0) :
    t.tick.1 = { t with div := t.div + 1 } := (tick_of_idle hr).trans (countDiv_of_quiet h)

/-- Ticks at which TIMA does not step count `div` alone. -/
theorem ticks_of_quiet (hr : t.reload = 0) {n : Nat}
    (h : ∀ k < n, t.enabled = true → (t.div + BitVec.ofNat 16 (k + 1)).toNat % t.period ≠ 0) :
    ticks n t = { t with div := t.div + BitVec.ofNat 16 n } := by
  induction n with
  | zero => simp [ticks]
  | succ n ih =>
    have e := div_add_succ t.div n
    rw [ticks_succ, ih fun k hk => h k (Nat.lt_succ_of_lt hk), ← e]
    exact tick_of_quiet (t := { t with div := t.div + BitVec.ofNat 16 n }) hr fun he => e ▸ h n n.lt_succ_self he

/-- Over one period `div` passes one multiple of it: after `period - 1 - div % period` quiet ticks TIMA steps, and the
rest of the ticks are quiet (rule R362). -/
theorem ticks_period (he : t.enabled = true) (hr : t.reload = 0) (hm : t.tima ≠ 0xFF) :
    ticks t.period t = { t with div := t.div + BitVec.ofNat 16 t.period, tima := t.tima + 1 } := by
  have hpos := t.period_pos
  have hlt := Nat.mod_lt t.div.toNat hpos
  obtain ⟨a, ha⟩ : ∃ a, t.period = a + 1 + t.div.toNat % t.period := ⟨t.period - 1 - t.div.toNat % t.period, by omega⟩
  have hdiv := t.div_add_mod_period
  generalize hb : t.div.toNat % t.period = b at *
  have hmod : ∀ k, (t.div.toNat + k) % t.period = (b + k) % t.period := fun k => by
    rw [Nat.add_mod, hb, Nat.add_mod_mod]
  have h1 : ticks a t = { t with div := t.div + BitVec.ofNat 16 a } :=
    ticks_of_quiet hr fun k hk _ => by rw [hdiv, hmod, Nat.mod_eq_of_lt] <;> omega
  have h2 : ticks (a + 1) t = { t with div := t.div + BitVec.ofNat 16 (a + 1), tima := t.tima + 1 } := by
    have h0 : (t.div + BitVec.ofNat 16 (a + 1)).toNat % t.period = 0 := by
      rw [hdiv, hmod, show b + (a + 1) = t.period by omega, Nat.mod_self]
    rw [← div_add_succ] at h0 ⊢
    rw [ticks_succ, h1]
    exact (tick_of_step (t := { t with div := t.div + BitVec.ofNat 16 a }) he hr h0).trans (if_neg hm)
  have h3 : ∀ k < b, (t.div + BitVec.ofNat 16 (a + 1) + BitVec.ofNat 16 (k + 1)).toNat % t.period ≠ 0 := fun k hk => by
    rw [BitVec.add_assoc, ← BitVec.ofNat_add, hdiv, hmod, show b + (a + 1 + (k + 1)) = k + 1 + t.period by omega,
      Nat.add_mod_right, Nat.mod_eq_of_lt] <;> omega
  rw [ha, BitVec.ofNat_add _ b, ← BitVec.add_assoc, ticks_add, h2]
  exact ticks_of_quiet (t := { t with div := t.div + BitVec.ofNat 16 (a + 1), tima := t.tima + 1 }) hr
    fun k hk _ => h3 k hk

/-- A disabled TIMA holds (rule R361). -/
theorem ticks_disabled (he : t.enabled = false) (hr : t.reload = 0) (n : Nat) :
    ticks n t = { t with div := t.div + BitVec.ofNat 16 n } :=
  ticks_of_quiet hr fun _ _ h => absurd (h.symm.trans he) (by decide)

/-! ### The reload window (rule R363) -/

/-- In the reload window `div` has left a multiple of the period by fewer ticks than a period has, so that TIMA does not
step, and the reload comes one tick nearer. -/
theorem tick_of_waiting (hr : 1 < t.reload) (h : (t.div + 1).toNat % t.period ≠ 0) :
    t.tick.1 = { t with div := t.div + 1, reload := t.reload - 1 } := by
  have hc : t.countReload = { t with reload := t.reload - 1 } :=
    (if_neg (by omega)).trans (if_neg (by omega))
  unfold tick
  rw [hc]
  exact countDiv_of_quiet fun _ => h

theorem tick_of_reload (hr : t.reload = 1) (h : (t.div + 1).toNat % t.period ≠ 0) :
    t.tick.1 = { t with div := t.div + 1, reload := 0, tima := t.tma } := by
  have hc : t.countReload = { t with reload := 0, tima := t.tma } := (if_neg (by omega)).trans (if_pos hr)
  unfold tick
  rw [hc]
  exact countDiv_of_quiet fun _ => h

section

variable (he : t.enabled = true) (hr : t.reload = 0) (hm : t.tima = 0xFF) (h : (t.div.toNat + 1) % t.period = 0)
include h

/-- The ticks after the overflow find no multiple of the period. -/
theorem mod_period_after_overflow {k : Nat} (h1 : 1 ≤ k) (h4 : k ≤ 4) :
    (t.div + BitVec.ofNat 16 k + 1).toNat % t.period ≠ 0 := by
  have h16 := Nat.le_of_dvd t.period_pos t.period_dvd
  rw [div_add_succ, div_add_mod_period, show t.div.toNat + (k + 1) = t.div.toNat + 1 + k by omega, Nat.add_mod, h,
    Nat.zero_add, Nat.mod_mod, Nat.mod_eq_of_lt] <;> omega

include he hr hm

/-- For four ticks after the overflow TIMA is 0 and the reload comes nearer. -/
theorem ticks_overflow {k : Nat} (hk : k ≤ 3) :
    ticks (k + 1) t = { t with div := t.div + BitVec.ofNat 16 (k + 1), tima := 0x00, reload := 4 - k } := by
  induction k with
  | zero =>
    show t.tick.1 = _
    rw [tick_of_step he hr ((t.div_add_mod_period 1).trans h)]
    exact if_pos hm
  | succ k ih =>
    rw [ticks_succ, ih (by omega), tick_of_waiting (by show 1 < 4 - k; omega), div_add_succ]
    · rfl
    · exact mod_period_after_overflow h (by omega) (by omega)

/-- The fifth tick reloads TIMA. -/
theorem ticks_overflow_reload :
    ticks 5 t = { t with div := t.div + BitVec.ofNat 16 5, tima := t.tma, reload := 0 } := by
  rw [ticks_succ, ticks_overflow he hr hm h (k := 3) (by decide), tick_of_reload rfl, div_add_succ]
  exact mod_period_after_overflow h (by decide) (by decide)

end

end Timer

/-- Settles O52: a period of ticks by `ticks_period`, an overflow by `ticks_overflow` and `ticks_overflow_reload`. -/
theorem timaCountsAndReloads : Obligations.TimaCountsAndReloads := by
  refine ⟨fun t hr => ⟨fun he hm => ?_, fun he n => ?_⟩,
    fun t he hr hm h => ⟨fun k h1 h4 => ?_, ?_, fun k hk => ?_, ?_⟩⟩
  · rw [Timer.ticks_period he hr hm]
    exact ⟨rfl, hr⟩
  · rw [Timer.ticks_disabled he hr]
  · obtain ⟨k, rfl⟩ := Nat.exists_eq_add_of_le' h1
    rw [Timer.ticks_overflow he hr hm h (by omega)]
    exact if_pos (by show 0 < 4 - k; omega)
  · rw [Timer.ticks_overflow_reload he hr hm h]
    rfl
  · refine if_neg ?_
    cases k with
    | zero => exact fun h1 => absurd (hr.symm.trans h1) (by decide)
    | succ k =>
      rw [Timer.ticks_overflow he hr hm h (by omega)]
      show ¬ 4 - k = 1
      omega
  · rw [Timer.ticks_overflow he hr hm h (k := 3) (by decide)]
    rfl

/-! ### The dots of the PPU (rules R371 to R377) -/

namespace Ppu

theorem statIf_or (a b : Bool) : statIf a ||| statIf b = statIf (a || b) := by
  cases a <;> cases b <;> rfl

theorem statIf_eq_ite {c : Bool} {P : Prop} [Decidable P] (h : c = true ↔ P) :
    statIf c = if P then 0b00010 else 0 := by
  unfold statIf
  simp only [h]
  rfl

theorem statIf_getLsbD (c : Bool) (i : Nat) : (statIf c).getLsbD i = true ↔ c = true ∧ i = 1 := by
  unfold statIf
  split_ifs with h
  · exact (IrqSource.stat.getLsbD_mask i).trans (by simp [h, IrqSource.id])
  · simp [h]

variable {p : Ppu} {mem : Memory}

theorem winningSprite_with_dots (x y d : Nat) (l : List Sprite) :
    ({ p with dots := d } : Ppu).winningSprite mem x y l = p.winningSprite mem x y l := by
  induction l with
  | nil => rfl
  | cons o l ih =>
    unfold winningSprite
    rw [ih]
    rfl

/-- What a line shows does not depend on the dot at which it is rendered. -/
theorem renderLine_with_dots (y d : Nat) :
    ({ p with dots := d } : Ppu).renderLine mem y = { p.renderLine mem y with dots := d } := by
  have hpixel : ∀ l x, ({ p with dots := d } : Ppu).pixel mem l x y = p.pixel mem l x y := fun l x => by
    unfold pixel
    rw [winningSprite_with_dots]
    rfl
  unfold renderLine
  simp only [hpixel]
  rfl

theorem lineEvent_dots (p : Ppu) (mem : Memory) : (p.lineEvent mem).1.dots = p.dots := by
  unfold lineEvent
  split_ifs <;> rfl

/-- Within a line a dot counts and has the event of its place. -/
theorem dot_within_line (hon : p.lcdOn = true) (hd : p.dots ≠ 455) :
    p.dot mem = ({ p with dots := p.dots + 1 } : Ppu).lineEvent mem := by
  have hend : (({ p with dots := p.dots + 1 } : Ppu).lineEvent mem).1.lineEnd = (_, 0) :=
    if_neg (by rw [lineEvent_dots]; show ¬ p.dots + 1 = 456; omega)
  unfold dot
  rw [if_neg (by simp [hon])]
  dsimp only
  rw [hend]
  exact Prod.ext rfl BitVec.or_zero

theorem dot_draw (hon : p.lcdOn = true) (hl : p.ly < 144) (hd : p.dots = 79) :
    p.dot mem = ({ p with dots := 80, mode := .draw }, 0) := by
  rw [dot_within_line hon (by omega), hd]
  exact (if_pos hl).trans (if_pos rfl)

theorem dot_render (hon : p.lcdOn = true) (hl : p.ly < 144) (hd : p.dots = 251) :
    p.dot mem = ({ p.renderLine mem p.ly with dots := 252, mode := .hblank }, statIf (p.statEn.getLsbD 0)) := by
  rw [dot_within_line hon (by omega), hd]
  unfold lineEvent
  dsimp only
  rw [if_pos hl, if_neg (by decide), if_pos rfl, renderLine_with_dots]
  rfl

theorem dot_count (hon : p.lcdOn = true) (h : ¬ (p.ly < 144 ∧ (p.dots = 79 ∨ p.dots = 251))) (hd : p.dots ≠ 455) :
    p.dot mem = ({ p with dots := p.dots + 1 }, 0) := by
  rw [dot_within_line hon hd]
  unfold lineEvent
  dsimp only
  split_ifs with hl h80 h252
  · omega
  · omega
  · rfl
  · rfl

/-- What the start of line `ly` requests (rules R374, R375). -/
theorem lineStart_eq (p : Ppu) :
    p.lineStart =
      ({ p with mode := if p.ly = 144 then .vblank else if p.ly < 144 then .oamScan else p.mode },
        statIf (decide (p.ly = 144) && p.statEn.getLsbD 1 || decide (p.ly < 144) && p.statEn.getLsbD 2) |||
          if p.ly = 144 then IrqSource.vblank.mask else 0) := by
  unfold lineStart enterMode
  split_ifs with h144 hlt
  · simp [h144, PpuMode.number]
  · simp [h144, hlt, PpuMode.number]
  · simp [h144, hlt, statIf]

/-- The STAT request of a dot that ends a line. -/
def lineEndStat (p : Ppu) : Bool :=
  (decide ((p.ly + 1) % 154 = p.lyc.toNat) && !p.lycFlag && p.statEn.getLsbD 3) ||
    (decide ((p.ly + 1) % 154 = 144) && p.statEn.getLsbD 1 || decide ((p.ly + 1) % 154 < 144) && p.statEn.getLsbD 2)

/-- The dot that ends a line: the next line, its LYC comparison and its mode, with their requests. -/
theorem dot_lineEnd (hon : p.lcdOn = true) (hd : p.dots = 455) :
    p.dot mem =
      ({ p with
          dots := 0, ly := (p.ly + 1) % 154, lycFlag := decide ((p.ly + 1) % 154 = p.lyc.toNat)
          mode :=
            if (p.ly + 1) % 154 = 144 then .vblank else if (p.ly + 1) % 154 < 144 then .oamScan else p.mode },
        statIf p.lineEndStat ||| if (p.ly + 1) % 154 = 144 then IrqSource.vblank.mask else 0) := by
  have hev : ({ p with dots := 456 } : Ppu).lineEvent mem = ({ p with dots := 456 }, 0) := by
    unfold lineEvent; simp
  have hend : ({ p with dots := 456 } : Ppu).lineEnd = (_, _) := if_pos rfl
  rw [lineStart_eq] at hend
  unfold dot
  rw [if_neg (by simp [hon]), hd, hev]
  dsimp only
  rw [hend]
  refine Prod.ext rfl ?_
  show 0 ||| (statIf _ ||| (statIf _ ||| _)) = _
  rw [← BitVec.or_assoc (statIf _), statIf_or]
  exact BitVec.zero_or

/-- The requests of a dot: VBlank where it starts line 144, and perhaps STAT. -/
theorem dot_request (p : Ppu) (mem : Memory) :
    ∃ stat, (p.dot mem).2 =
      statIf stat |||
        if p.lcdOn = true ∧ p.dots = 455 ∧ (p.ly + 1) % 154 = 144 then IrqSource.vblank.mask else 0 := by
  cases hon : p.lcdOn with
  | false => exact ⟨false, by rw [dot_off p mem hon]; simp [statIf]⟩
  | true =>
    by_cases hd : p.dots = 455
    · exact ⟨p.lineEndStat, by rw [dot_lineEnd hon hd]; simp [hd]⟩
    · simp only [hd, false_and, and_false, if_false, BitVec.ofNat_eq_ofNat, BitVec.or_zero]
      by_cases h : p.ly < 144 ∧ (p.dots = 79 ∨ p.dots = 251)
      · rcases h.2 with h79 | h251
        · exact ⟨false, by rw [dot_draw hon h.1 h79]; rfl⟩
        · exact ⟨_, by rw [dot_render hon h.1 h251]⟩
      · exact ⟨false, by rw [dot_count hon h hd]; rfl⟩

/-- A dot requests VBlank exactly where it starts line 144 (rule R374). -/
theorem dot_request_vblank (p : Ppu) (mem : Memory) :
    (p.dot mem).2.getLsbD 0 = true ↔ p.lcdOn = true ∧ p.dots = 455 ∧ (p.ly + 1) % 154 = 144 := by
  obtain ⟨stat, h⟩ := p.dot_request mem
  rw [h, BitVec.getLsbD_or, Bool.or_eq_true, statIf_getLsbD]
  split_ifs with hv
  · exact iff_of_true (.inr ((IrqSource.vblank.getLsbD_mask 0).mpr rfl)) hv
  · exact iff_of_false (by simp) hv

/-- A dot requests VBlank and STAT at most. -/
theorem dot_request_high (p : Ppu) (mem : Memory) {i : Nat} (hi : 2 ≤ i) : (p.dot mem).2.getLsbD i = false := by
  obtain ⟨stat, h⟩ := p.dot_request mem
  have hs : (statIf stat).getLsbD i = false := by rw [Bool.eq_false_iff, Ne, statIf_getLsbD]; omega
  rw [h, BitVec.getLsbD_or, hs, Bool.false_or]
  split_ifs
  · rw [Bool.eq_false_iff, Ne, IrqSource.getLsbD_mask, IrqSource.id]; omega
  · simp

/-- A dot moves the PPU one place on in the frame (rule R377). -/
theorem dot_position (h : p.Ok) (hon : p.lcdOn = true) : (p.dot mem).1.position = (p.position + 1) % 70224 := by
  have hl := h.line
  have hd := h.dot
  rcases dot_cases p mem hon hd with ⟨h1, e⟩ | ⟨h1, h2, h3, e⟩ | ⟨h1, h2, h3, f, e, -⟩ | ⟨h1, h2, e⟩ <;>
    rw [e] <;> unfold position <;> dsimp only <;> omega

@[simp] theorem dot_lcdOn (p : Ppu) (mem : Memory) : (p.dot mem).1.lcdOn = p.lcdOn := by
  obtain ⟨d, l, f, m, fb, h⟩ := p.dot_registers mem
  rw [h]
  rfl

/-- What any number of dots keeps, and how far it moves the PPU. -/
theorem dotTimes_on (n : Nat) (h : p.Ok) (hon : p.lcdOn = true) :
    (dotTimes n mem p).Ok ∧ (dotTimes n mem p).lcdOn = true ∧
      (dotTimes n mem p).position = (p.position + n) % 70224 := by
  induction n generalizing p with
  | zero =>
    have hl := h.line
    have hd := h.dot
    exact ⟨h, hon, by show p.position = _; unfold position; omega⟩
  | succ n ih =>
    obtain ⟨hok, hon', hpos⟩ := ih (ok_dot h mem) ((dot_lcdOn p mem).trans hon)
    refine ⟨hok, hon', hpos.trans ?_⟩
    rw [dot_position h hon]
    omega

theorem dotTimes_off (n : Nat) (hoff : p.lcdOn = false) : dotTimes n mem p = p := by
  induction n with
  | zero => rfl
  | succ n ih => rw [dotTimes, dot_off p mem hoff, ih]

/-- The dot that brings the PPU to the first place of line 144 requests VBlank. -/
theorem dot_request_vblank_position (h : p.Ok) (hon : p.lcdOn = true) :
    (p.dot mem).2.getLsbD 0 = true ↔ (p.position + 1) % 70224 = 65664 := by
  have hl := h.line
  have hd := h.dot
  rw [dot_request_vblank]
  unfold position
  simp only [hon, true_and]
  omega

/-! ### Writes to LCDC and LYC (rules R376, R378, R379) -/

theorem writeLcdc_off {v : Byte} (hon : p.lcdOn = true) (hv : v.getLsbD 7 = false) :
    p.writeLcdc v = ({ p with lcdc := v, ly := 0, mode := .hblank, dots := 0 }, 0) := by
  have hnew : ({ p with lcdc := v } : Ppu).lcdOn = false := hv
  unfold writeLcdc
  dsimp only
  rw [hon, hnew]
  rfl

theorem writeLcdc_on {v : Byte} (hoff : p.lcdOn = false) (hv : v.getLsbD 7 = true) :
    p.writeLcdc v =
      ({ p with lcdc := v, ly := 0, mode := .oamScan, dots := 0, lycFlag := decide (p.lyc = 0) },
        statIf (p.statEn.getLsbD 2 || (decide (p.lyc = 0) && !p.lycFlag && p.statEn.getLsbD 3))) := by
  have hnew : ({ p with lcdc := v } : Ppu).lcdOn = true := hv
  have hlyc : decide (0 = p.lyc.toNat) = decide (p.lyc = 0) :=
    decide_eq_decide.mpr ⟨fun h => BitVec.eq_of_toNat_eq h.symm, fun h => by rw [h]; rfl⟩
  unfold writeLcdc
  dsimp only
  rw [hoff, hnew, ← hlyc, ← statIf_or]
  rfl

theorem writeLcdc_same {v : Byte} (h : p.lcdOn = v.getLsbD 7) : p.writeLcdc v = ({ p with lcdc := v }, 0) := by
  have hnew : ({ p with lcdc := v } : Ppu).lcdOn = p.lcdOn := h.symm
  unfold writeLcdc
  dsimp only
  rw [hnew]
  cases p.lcdOn <;> rfl

theorem writeLyc_eq (p : Ppu) (v : Byte) :
    p.writeLyc v =
      ({ p with lyc := v, lycFlag := if p.lcdOn then decide (p.ly = v.toNat) else p.lycFlag },
        statIf (p.lcdOn && decide (p.ly = v.toNat) && !p.lycFlag && p.statEn.getLsbD 3)) := by
  have hnew : ({ p with lyc := v } : Ppu).lcdOn = p.lcdOn := rfl
  unfold writeLyc
  dsimp only
  rw [hnew]
  cases p.lcdOn <;> rfl

end Ppu

theorem State.write_lcdc (s : State) (v : Byte) : s.write 0xFF40 v = s.setPpu (s.ppu.writeLcdc v) := rfl

theorem State.write_lyc (s : State) (v : Byte) : s.write 0xFF45 v = s.setPpu (s.ppu.writeLyc v) := rfl

theorem State.setPpu_zero (s : State) (p : Ppu) : s.setPpu (p, 0) = { s with ppu := p } :=
  congrArg (fun f => ({ s with ppu := p, irq.ifr := f } : State)) BitVec.or_zero

/-- Settles O53: the dots by `dot_cases`, the requests by the equation of each dot. -/
theorem frameAndVBlank : Obligations.FrameAndVBlank := by
  refine ⟨fun s n h hon => ?_, fun p mem h hon => ⟨Ppu.dot_request_vblank_position h hon, fun hd => ?_⟩,
    fun p mem hon => ⟨fun hl hd => Ppu.dot_draw hon hl hd, fun hl hd => ?_, fun hd => ?_,
      fun h hd => Ppu.dot_count hon h hd⟩⟩
  · rw [ppuAdvance_ppu]
    exact (Ppu.dotTimes_on n h hon).2.2
  · rw [Ppu.dot_lineEnd hon hd.1, hd.2]
    exact ⟨rfl, rfl⟩
  · rw [Ppu.dot_render hon hl hd]
    rfl
  · intro l lyc stat
    rw [Ppu.dot_lineEnd hon hd, Ppu.statIf_eq_ite (P := stat)]
    · rfl
    · simp [Ppu.lineEndStat, stat, lyc, l, and_assoc]

/-- Settles O55: a write to LCDC by its three cases, entering a mode and a write to LYC by their STAT requests. -/
theorem lcdSwitchAndStatRequests : Obligations.LcdSwitchAndStatRequests := by
  refine ⟨fun s v mem => ⟨fun ⟨hon, hv⟩ => ?_, fun ⟨hoff, hv⟩ => ?_, fun h => ?_, Ppu.dot_off s.ppu mem⟩,
    fun s m v => ⟨rfl, ?_, ?_⟩⟩
  · rw [write_lcdc, Ppu.writeLcdc_off hon hv, setPpu_zero]
  · rw [write_lcdc, Ppu.writeLcdc_on hoff hv]
    rfl
  · rw [write_lcdc, Ppu.writeLcdc_same h, setPpu_zero]
  · refine Ppu.statIf_eq_ite ?_
    cases m <;> simp [PpuMode.number]
  · rw [write_lyc, Ppu.writeLyc_eq]
    rfl

/-- Settles O54: the PPU that is turned on stands at place 0, so that the dot with the VBlank request is the last of
65,664. -/
theorem firstVBlankAfterLcdOn : Obligations.FirstVBlankAfterLcdOn := by
  intro s v h hoff hv hifr t
  have hw : t = s.setPpu (s.ppu.writeLcdc v) := rfl
  have hon : t.ppu.lcdOn = true := by rw [hw, setPpu_ppu, Ppu.writeLcdc_on hoff hv]; exact hv
  have hpos : t.ppu.position = 0 := by rw [hw, setPpu_ppu, Ppu.writeLcdc_on hoff hv]; rfl
  have hbit : t.irq.ifr.getLsbD 0 = false := by
    rw [hw, setPpu_irq, Ppu.writeLcdc_on hoff hv]
    dsimp only
    rw [BitVec.getLsbD_or, hifr, Bool.false_or, Bool.eq_false_iff, Ne, Ppu.statIf_getLsbD]
    simp
  have hreq : ∀ k, ((Ppu.dotTimes k t.mem t.ppu).dot t.mem).2.getLsbD 0 = true ↔ (k + 1) % 70224 = 65664 := fun k => by
    obtain ⟨hok, hon', hp⟩ := Ppu.dotTimes_on (mem := t.mem) k (h.write 0xFF40 v).ppu hon
    rw [Ppu.dot_request_vblank_position hok hon', hp, hpos, Nat.zero_add, Nat.mod_add_mod]
  refine ⟨fun n hn => ?_, ?_⟩
  · rw [Bool.eq_false_iff, Ne, ppuAdvance_ifr, hbit]
    rintro (h0 | ⟨k, hk, h0⟩)
    · exact Bool.false_ne_true h0
    · have := (hreq k).mp h0
      omega
  · rw [ppuAdvance_ifr]
    exact .inr ⟨65663, by decide, (hreq 65663).mpr rfl⟩

/-! ### The advance of a step (rules R320, R324) -/

namespace State

/-- The timer's advance leaves the PPU and memory. -/
theorem advance_ppu (s : State) : s.advance.ppu = Ppu.dotTimes s.cycles s.mem s.ppu := by
  obtain ⟨t, f, h⟩ := timerAdvance_frame s.cycles s
  refine (ppuAdvance_ppu s.cycles (timerAdvance s.cycles s)).trans ?_
  rw [h]

theorem advance_timer (s : State) : s.advance.timer = Timer.ticks s.cycles s.timer := by
  obtain ⟨p, f, h⟩ := ppuAdvance_frame s.cycles (timerAdvance s.cycles s)
  rw [← timerAdvance_timer]
  unfold advance
  rw [h]

/-- A bit of IF after the advance: it was set, or a tick or a dot of the batch requests it. -/
theorem advance_ifr (s : State) (i : Nat) :
    s.advance.irq.ifr.getLsbD i = true ↔
      s.irq.ifr.getLsbD i = true ∨ (∃ k < s.cycles, (Timer.ticks k s.timer).tick.2.getLsbD i = true) ∨
        ∃ k < s.cycles, ((Ppu.dotTimes k s.mem s.ppu).dot s.mem).2.getLsbD i = true := by
  obtain ⟨t, f, h⟩ := timerAdvance_frame s.cycles s
  have hm : (timerAdvance s.cycles s).mem = s.mem := by rw [h]
  have hp : (timerAdvance s.cycles s).ppu = s.ppu := by rw [h]
  refine (ppuAdvance_ifr s.cycles (timerAdvance s.cycles s) i).trans ?_
  rw [timerAdvance_ifr, hm, hp, or_assoc]

/-- Serial and Joypad are requested from outside alone. -/
theorem advance_ifr_high (s : State) {i : Nat} (hi : 3 ≤ i) : s.advance.irq.ifr.getLsbD i = s.irq.ifr.getLsbD i := by
  rw [Bool.eq_iff_iff, advance_ifr]
  simp [Timer.tick_request, Ppu.dot_request_high _ _ (show 2 ≤ i by omega), show i ≠ 2 by omega]

theorem advance_cart (s : State) : s.advance.cart = s.cart.tickRtc s.draws := by
  obtain ⟨t, f, h1⟩ := timerAdvance_frame s.cycles s
  obtain ⟨p, f', h2⟩ := ppuAdvance_frame s.cycles (timerAdvance s.cycles s)
  unfold advance
  rw [h2, h1]

end State

/-- Settles O51: the timer and the PPU advance by ticks and dots, and each bit of IF has the requests of these. -/
theorem divCountsCycles : Obligations.DivCountsCycles := by
  intro s t timerAt ppuAt
  have htimer : t.timer = timerAt s.cycles := s.advance_timer
  have hppu : t.ppu = ppuAt s.cycles := s.advance_ppu
  refine ⟨⟨htimer, ?_, ?_, ?_⟩, ⟨hppu, fun h hon => ?_, fun hoff => ?_⟩,
    ⟨advance_ie s, ?_, ?_, ?_, s.advance_ifr_high (by decide), s.advance_ifr_high (by decide)⟩,
    ⟨advance_cpu s, advance_mem s, advance_params s, advance_extIrq s, advance_cycles s, advance_draws s⟩, ?_⟩
  · rw [htimer]; exact Timer.ticks_div ..
  · rw [htimer]; exact Timer.ticks_tma ..
  · rw [htimer]; exact Timer.ticks_tac ..
  · rw [hppu]; exact (Ppu.dotTimes_on s.cycles h hon).2.2
  · rw [hppu]; exact Ppu.dotTimes_off s.cycles hoff
  · simpa only [Timer.tick_request, Ppu.dot_request_vblank, OfNat.zero_ne_ofNat, false_and, and_false, exists_false,
      false_or] using s.advance_ifr 0
  · simpa only [Timer.tick_request, OfNat.one_ne_ofNat, false_and, and_false, exists_false, false_or]
      using s.advance_ifr 1
  · simpa only [Timer.tick_request, Ppu.dot_request_high _ _ (le_refl 2), true_and, Bool.false_eq_true, and_false,
      exists_false, or_false] using s.advance_ifr 2
  · rw [advance_cart]
    rfl

/-! ### The pixels of a line (rules R380 to R386) -/

/-- The even number of a pair of tiles. -/
theorem toNat_and_FE (v : Byte) : (v &&& 0xFE).toNat = 2 * (v.toNat / 2) := by
  have h : v &&& (0xFE : Byte) = v >>> 1 <<< 1 := (BitVec.shiftLeft_ushiftRight (x := v) (n := 1)).symm
  have hlt := v.isLt
  rw [h, BitVec.toNat_shiftLeft, BitVec.toNat_ushiftRight, Nat.shiftLeft_eq, Nat.shiftRight_eq_div_pow]
  omega

namespace Ppu

variable {p : Ppu} {mem : Memory} {x y : Nat}

/-- Rendering stores the pixels of its line and no other entry (rule R380). -/
theorem get_renderLine (p : Ppu) (mem : Memory) (y i : Nat) :
    Store.get (p.renderLine mem y).framebuffer i =
      if 160 * y ≤ i ∧ i < 160 * y + 160 then p.pixel mem (p.lineSprites mem y) (i - 160 * y) y
      else Store.get p.framebuffer i := by
  unfold renderLine
  dsimp only
  rw [Store.get_setRun, List.length_map, List.length_range]
  split_ifs with h
  · rw [List.getD_eq_getElem _ _ (by simp; omega), List.getElem_map, List.getElem_range]
  · rfl

/-- The colour index at a column of the two bytes of a tile's row (rule R385). -/
def tileBits (mem : Memory) (base col row : Nat) : Nat :=
  let bit (b : Byte) : Nat := if b.getLsbD (7 - col) then 1 else 0
  2 * bit (Store.get mem (base + 2 * row + 1)) + bit (Store.get mem (base + 2 * row))

/-- Where the 16 bytes of a tile start: LCDC bit 4 selects the numbering (rule R385). -/
def tileBase (unsignedMode : Bool) (t : Nat) : Nat :=
  if unsignedMode then 0x8000 + 16 * t else if t < 128 then 0x9000 + 16 * t else 0x8800 + 16 * (t - 128)

theorem tilePixel_eq (mem : Memory) (t : Byte) (col row : Nat) (unsignedMode : Bool) :
    tilePixel mem t col row unsignedMode = tileBits mem (tileBase unsignedMode t.toNat) col row := by
  have two : ∀ b : Bool, (if b then 2 else 0) = 2 * (if b then 1 else 0) := by decide
  exact congrArg (· + _) (two _)

theorem mapPixel_eq (p : Ppu) (mem : Memory) (second : Bool) (px py : Nat) :
    p.mapPixel mem second px py =
      tileBits mem
        (tileBase (p.lcdc.getLsbD 4)
          (Store.get mem ((if second then 0x9C00 else 0x9800) + 32 * (py / 8) + px / 8)).toNat)
        (px % 8) (py % 8) := tilePixel_eq ..

theorem windowCovers_iff :
    p.windowCovers x y = true ↔
      p.lcdc.getLsbD 0 = true ∧ p.lcdc.getLsbD 5 = true ∧ p.wy.toNat ≤ y ∧ p.wx.toNat ≤ 166 ∧ p.wx.toNat ≤ x + 7 := by
  simp [windowCovers, and_assoc]

/-- A pixel of the window (rule R382). -/
theorem backgroundPixel_of_window (h : p.windowCovers x y = true) :
    p.backgroundPixel mem x y = p.mapPixel mem (p.lcdc.getLsbD 6) (x + 7 - p.wx.toNat) (y - p.wy.toNat) := by
  unfold backgroundPixel
  rw [if_neg (by simp [(windowCovers_iff.mp h).1]), if_pos h]

/-- A pixel that the window does not cover (rule R381). -/
theorem backgroundPixel_of_not_window (h : ¬ p.windowCovers x y = true) :
    p.backgroundPixel mem x y =
      if p.lcdc.getLsbD 0 then
        p.mapPixel mem (p.lcdc.getLsbD 3) ((x + p.scx.toNat) % 256) ((y + p.scy.toNat) % 256)
      else 0 := by
  unfold backgroundPixel
  rw [if_neg h]
  cases p.lcdc.getLsbD 0 <;> rfl

/-- Where no sprite wins, BGP gives the shade (rule R386). -/
theorem pixel_of_none {l : List Sprite} (h : p.winningSprite mem x y l = none) :
    (p.pixel mem l x y).toNat = p.bgp.toNat / 4 ^ p.backgroundPixel mem x y % 4 := by
  unfold pixel
  rw [h]
  exact shade_toNat ..

/-- The shade of a pixel that a sprite wins: by its palette, or by BGP behind the background (rules R384, R386). -/
theorem pixel_of_some {l : List Sprite} {o : Sprite} {c : Nat} (h : p.winningSprite mem x y l = some (o, c)) :
    (p.pixel mem l x y).toNat =
      if o.attr.getLsbD 7 = true ∧ p.backgroundPixel mem x y ≠ 0 then
        p.bgp.toNat / 4 ^ p.backgroundPixel mem x y % 4
      else (if o.attr.getLsbD 4 then p.obp1 else p.obp0).toNat / 4 ^ c % 4 := by
  unfold pixel
  rw [h]
  simp only [Bool.and_eq_true, decide_eq_true_eq]
  split_ifs <;> exact shade_toNat ..

/-! ### Sprites (rules R383, R384) -/

theorem spriteCovers_iff {o : Sprite} : spriteCovers x o = true ↔ o.x.toNat ≤ x + 8 ∧ x + 8 < o.x.toNat + 8 := by
  simp [spriteCovers]

theorem winningSprite_eq_none_iff {l : List Sprite} :
    p.winningSprite mem x y l = none ↔ ∀ o ∈ l, spriteCovers x o = true → p.spritePixel mem x y o = 0 := by
  induction l with
  | nil => simp [winningSprite]
  | cons o l ih =>
    unfold winningSprite
    split_ifs with h
    · simpa using fun h0 => absurd h0 (by simpa using h)
    · simp_all

/-- The first sprite that covers the pixel with a colour index other than 0 wins. -/
theorem winningSprite_append {before after : List Sprite} {o : Sprite}
    (hb : ∀ q ∈ before, spriteCovers x q = true → p.spritePixel mem x y q = 0) (hc : spriteCovers x o = true)
    (h0 : p.spritePixel mem x y o ≠ 0) :
    p.winningSprite mem x y (before ++ o :: after) = some (o, p.spritePixel mem x y o) := by
  induction before with
  | nil => exact if_pos (by simp [hc, h0])
  | cons q l ih =>
    have hq : ¬ (spriteCovers x q && decide (p.spritePixel mem x y q ≠ 0)) = true := by
      simpa using hb q (by simp)
    exact (if_neg hq).trans (ih fun q hq => hb q (by simp [hq]))

/-- The row of its tile, or pair of tiles, that a sprite shows on line y, with the flip of bit 6 of `attr`. -/
def spriteRow (p : Ppu) (y : Nat) (o : Sprite) : Nat :=
  if o.attr.getLsbD 6 then p.spriteHeight - 1 - (y + 16 - o.y.toNat) else y + 16 - o.y.toNat

/-- The column of its tile that a sprite shows at pixel x, with the flip of bit 5 of `attr`. -/
def spriteColumn (x : Nat) (o : Sprite) : Nat :=
  if o.attr.getLsbD 5 then 7 - (x + 8 - o.x.toNat) else x + 8 - o.x.toNat

theorem spriteOnLine_iff {o : Sprite} :
    p.spriteOnLine y o = true ↔ o.y.toNat ≤ y + 16 ∧ y + 16 < o.y.toNat + p.spriteHeight := by
  simp [spriteOnLine]

/-- The colour index of a sprite on the line: an 8 by 16 sprite shows the pair of tiles whose first number is even. -/
theorem spritePixel_eq {o : Sprite} (h : p.spriteOnLine y o = true) :
    p.spritePixel mem x y o =
      tileBits mem
        (0x8000 + 16 *
          (if p.spriteHeight = 8 then o.tile.toNat else 2 * (o.tile.toNat / 2) + p.spriteRow y o / 8))
        (spriteColumn x o) (p.spriteRow y o % 8) := by
  obtain ⟨-, hlt⟩ := spriteOnLine_iff.mp h
  have hh : p.spriteHeight ≤ 16 := by unfold spriteHeight; split_ifs <;> decide
  have hrow : p.spriteRow y o < 16 := by unfold spriteRow; split_ifs <;> omega
  have htile : (if p.spriteHeight = 8 then o.tile else (o.tile &&& 0xFE) + BitVec.ofNat 8 (p.spriteRow y o / 8)).toNat =
      if p.spriteHeight = 8 then o.tile.toNat else 2 * (o.tile.toNat / 2) + p.spriteRow y o / 8 := by
    have ht := o.tile.isLt
    split_ifs
    · rfl
    · rw [BitVec.toNat_add, toNat_and_FE, BitVec.toNat_ofNat]
      omega
  rw [← htile]
  exact tilePixel_eq ..

/-! ### The order of the sprites (rule R383) -/

theorem length_insertByX (o : Sprite) (l : List Sprite) : (insertByX o l).length = l.length + 1 := by
  induction l with
  | nil => rfl
  | cons a l ih =>
    unfold insertByX
    split_ifs
    · rfl
    · exact congrArg (· + 1) ih

theorem length_foldl_insertByX (l acc : List Sprite) :
    (l.foldl (fun acc o => insertByX o acc) acc).length = l.length + acc.length := by
  induction l generalizing acc with
  | nil => simp
  | cons o l ih => rw [List.foldl_cons, ih, length_insertByX, List.length_cons]; omega

/-- The order in which sprites are tried: X ascending. -/
def SortedByX (l : List Sprite) : Prop := l.Pairwise fun a b => a.x.toNat ≤ b.x.toNat

theorem SortedByX.insertByX {l : List Sprite} (h : SortedByX l) (o : Sprite) : SortedByX (insertByX o l) := by
  induction l with
  | nil => exact List.pairwise_singleton _ _
  | cons a l ih =>
    obtain ⟨ha, hl⟩ := List.pairwise_cons.mp h
    unfold Ppu.insertByX
    split_ifs with hlt
    · refine List.pairwise_cons.mpr ⟨fun q hq => ?_, h⟩
      rcases List.mem_cons.mp hq with rfl | hq
      · omega
      · have := ha q hq
        omega
    · refine List.pairwise_cons.mpr ⟨fun q hq => ?_, ih hl⟩
      rcases mem_insertByX.mp hq with rfl | hq
      · omega
      · exact ha q hq

/-- An insertion comes last among the sprites of its X. -/
theorem filter_insertByX {l : List Sprite} (h : SortedByX l) (o : Sprite) (c : Byte) :
    (insertByX o l).filter (fun q => decide (q.x = c)) =
      l.filter (fun q => decide (q.x = c)) ++ [o].filter (fun q => decide (q.x = c)) := by
  induction l with
  | nil => rfl
  | cons a l ih =>
    obtain ⟨ha, hl⟩ := List.pairwise_cons.mp h
    unfold insertByX
    split_ifs with hlt
    · by_cases ho : o.x = c
      · have hnil : (a :: l).filter (fun q => decide (q.x = c)) = [] := by
          rw [List.filter_eq_nil_iff]
          intro q hq
          have hle : a.x.toNat ≤ q.x.toNat := by
            rcases List.mem_cons.mp hq with rfl | hq
            · exact le_rfl
            · exact ha q hq
          rw [decide_eq_true_eq]
          rintro rfl
          rw [ho] at hlt
          omega
        rw [List.filter_cons, hnil]
        simp [ho]
      · simp [List.filter_cons, ho]
    · rw [List.filter_cons, List.filter_cons, ih hl]
      split_ifs <;> rfl

/-- Sorting a list of sprites gives an order by X, in which the sprites of one X keep their order. -/
theorem foldl_insertByX {l acc : List Sprite} (h : SortedByX acc) :
    SortedByX (l.foldl (fun acc o => insertByX o acc) acc) ∧
      ∀ c : Byte, (l.foldl (fun acc o => insertByX o acc) acc).filter (fun q => decide (q.x = c)) =
        acc.filter (fun q => decide (q.x = c)) ++ l.filter (fun q => decide (q.x = c)) := by
  induction l generalizing acc with
  | nil => exact ⟨h, fun c => (List.append_nil _).symm⟩
  | cons o l ih =>
    obtain ⟨hs, hf⟩ := ih (h.insertByX o)
    refine ⟨hs, fun c => ?_⟩
    rw [List.foldl_cons, hf, filter_insertByX h, List.append_assoc, ← List.filter_append]
    rfl

theorem lineSprites_of_off (h : p.lcdc.getLsbD 1 = false) : p.lineSprites mem y = [] := if_pos (by rw [h]; rfl)

theorem lineSprites_of_on (h : p.lcdc.getLsbD 1 = true) :
    p.lineSprites mem y =
      ((((List.range 40).map (oamEntry mem)).filter (p.spriteOnLine y)).take 10).foldl
        (fun acc o => insertByX o acc) [] := if_neg (by simp [h])

/-- At most ten sprites are tried on a line, by X. -/
theorem lineSprites_sorted (p : Ppu) (mem : Memory) (y : Nat) :
    (p.lineSprites mem y).length ≤ 10 ∧ SortedByX (p.lineSprites mem y) := by
  cases h : p.lcdc.getLsbD 1 with
  | false => rw [lineSprites_of_off h]; exact ⟨by decide, .nil⟩
  | true =>
    rw [lineSprites_of_on h, length_foldl_insertByX]
    exact ⟨List.length_take_le 10 _, (foldl_insertByX .nil).1⟩

theorem oamEntry_eq (mem : Memory) (i : Nat) :
    oamEntry mem i =
      { y := Store.get mem (0xFE00 + 4 * i), x := Store.get mem (0xFE01 + 4 * i)
        tile := Store.get mem (0xFE02 + 4 * i), attr := Store.get mem (0xFE03 + 4 * i) } := by
  unfold oamEntry
  rw [show 0xFE00 + 4 * i + 1 = 0xFE01 + 4 * i by omega, show 0xFE00 + 4 * i + 2 = 0xFE02 + 4 * i by omega,
    show 0xFE00 + 4 * i + 3 = 0xFE03 + 4 * i by omega]

end Ppu

/-- Settles O56: the run of a rendered line, and a background pixel as the tile bits at the scrolled point. -/
theorem renderedBackground : Obligations.RenderedBackground := by
  refine ⟨Ppu.get_renderLine, fun p mem x y hw => ?_⟩
  intro px py t base lo hi bit c
  have hc : p.backgroundPixel mem x y = c := by
    rw [Ppu.backgroundPixel_of_not_window (mt Ppu.windowCovers_iff.mp hw), Ppu.mapPixel_eq]
    rfl
  exact ⟨hc, fun h => hc ▸ Ppu.pixel_of_none h⟩

/-- Settles O57: the order of the sprites is that of an insertion sort by X, which is stable. -/
theorem spriteSelection : Obligations.SpriteSelection := by
  intro p mem y h entry onLine
  obtain ⟨hlen, hsorted⟩ := p.lineSprites_sorted mem y
  have honLine : p.spriteOnLine y = onLine := funext fun o => (Bool.decide_and _ _).symm
  have hentry : Ppu.oamEntry mem = entry := funext (Ppu.oamEntry_eq mem)
  refine ⟨hlen, fun o ho => honLine ▸ Ppu.spriteOnLine_of_mem ho, hsorted, Ppu.lineSprites_of_off, fun hon c => ?_⟩
  rw [Ppu.lineSprites_of_on hon, (Ppu.foldl_insertByX .nil).2, honLine, hentry]
  rfl

/-- Settles O60: a window pixel as the tile bits at the window's point, and the sprites of a line in their order, each
with the tile bits of its row and column. -/
theorem windowAndSpritePixels : Obligations.WindowAndSpritePixels := by
  refine ⟨fun p mem x y h0 h5 hy hx hx' => ?_, fun p mem x y => ?_⟩
  · intro wx wy t base lo hi bit c
    have hc : p.backgroundPixel mem x y = c := by
      rw [Ppu.backgroundPixel_of_window (Ppu.windowCovers_iff.mpr ⟨h0, h5, hy, hx, hx'⟩), Ppu.mapPixel_eq]
      rfl
    exact ⟨hc, fun h => hc ▸ Ppu.pixel_of_none h⟩
  · intro h covers colour bg
    have hcolour : ∀ o ∈ p.lineSprites mem y, p.spritePixel mem x y o = colour o := fun o ho =>
      Ppu.spritePixel_eq (Ppu.spriteOnLine_of_mem ho)
    have hcovers : ∀ o, Ppu.spriteCovers x o = true ↔ covers o := fun o => Ppu.spriteCovers_iff
    refine ⟨Ppu.winningSprite_eq_none_iff.trans ?_, fun before o after hl hb hc h0 => ?_⟩
    · exact forall₂_congr fun o ho => by rw [hcovers, hcolour o ho]
    · have ho := hcolour o (by simp [hl])
      have hwin : p.winningSprite mem x y (p.lineSprites mem y) = some (o, colour o) := by
        rw [← ho] at h0 ⊢
        rw [hl]
        refine Ppu.winningSprite_append (fun q hq hqc => ?_) ((hcovers o).mpr hc) h0
        rw [hcolour q (by simp [hl, hq])]
        exact hb q hq ((hcovers q).mp hqc)
      exact ⟨hwin, Ppu.pixel_of_some hwin⟩

end Sys2Proof.Machine

/-! PROOFS of the statements of 70_reset_and_hazards.md: the end of a run (O50), and the reset state (O37, O38, O39). -/

namespace Sys2Proof.Machine

open State

/-! ### The bytes that code is fetched from -/

/-- The live MBC3 clock, a free value (log 9), plays no part in a read of the ROM. -/
@[simp] theorem Cartridge.readRom_tickRtc (c : Cartridge) (d : Nat) (a : Addr) :
    (c.tickRtc d).readRom a = c.readRom a := by
  unfold tickRtc
  split
  · next hm => simp only [readRom, romIndex, romBank, hm]
  · rfl

@[simp] theorem Cartridge.extRam_tickRtc (c : Cartridge) (d : Nat) : (c.tickRtc d).extRam = c.extRam := by
  obtain ⟨m, h, -⟩ := c.tickRtc_frame d
  rw [h]

/-- A read of ROM or of work RAM looks at the ROM and at memory alone. -/
theorem State.read_congr_of_rom_or_workRam {s t : State} {a : Addr} (h : region a = .rom ∨ isWorkRam a = true)
    (hrom : t.cart.readRom a = s.cart.readRom a) (hmem : t.mem = s.mem) : t.read a = s.read a := by
  rcases h with h | h
  · rw [read_rom h, read_rom h, hrom]
  · rw [read_workRam h, read_workRam h, hmem]

/-! ### The loop at the end of a run (rule R455) -/

/-- A CPU that is neither locked, stopped nor halted, with no interrupt to service, runs an instruction. -/
theorem State.cpuAction_of_not_serviceable {s : State} (hl : s.cpu.lock = false) (hs : s.cpu.stop = false)
    (hh : s.cpu.halt = false) (hi : s.cpu.ime = false ∨ s.irq.ie.extractLsb' 0 5 = 0) :
    s.cpuAction = .execute s.acceptExt := by
  have hawake : s.awake = s.acceptExt := awake_of_not_stop hs
  by_cases hp : s.acceptExt.pending = 0
  · rw [cpuAction_of_not_pending hl (.inl hs) hp, hh, hawake]
    rfl
  · have hime : s.cpu.ime = false := hi.resolve_right fun h0 =>
      hp (by rw [acceptExt_pending, h0]; exact BitVec.and_zero)
    have hhalt : ({ s.acceptExt with cpu.halt := false } : State) = s.acceptExt := by rw [← hh]; rfl
    rw [cpuAction_of_pending hl (.inl hs) hp, hime, hawake, hhalt]
    rfl

/-- The fetch of a relative jump with no HALT bug waiting: its two bytes, and PC past them. -/
theorem State.fetched_jr {s : State} {e : Byte} (hb : s.cpu.haltBug = false) (hop : s.read s.cpu.pc = 0x18)
    (he : s.read (s.cpu.pc + 1) = e) : s.fetched = (.jr_e8 e, s.setPc (s.cpu.pc + 1 + 1)) := by
  have hcount : operandCount 0x18 = 1 := by decide
  unfold fetched
  rw [fetchOpcode_plain hb, hop]
  dsimp only
  rw [hcount, ← he]
  rfl

/-- The loop `18 FE` jumps back by its own two bytes: only the cycle count is written (rule R283). -/
theorem exec_jr_self (s : State) : exec (.jr_e8 0xFE) (s.setPc (s.cpu.pc + 1 + 1)) = .next (s.spend 12) := by
  have htarget : s.cpu.pc + 1 + 1 + sext16 0xFE = s.cpu.pc := by
    rw [show sext16 0xFE = 0xFFFE from rfl]
    bv_omega
  have hjump : exec (.jr_e8 0xFE) (s.setPc (s.cpu.pc + 1 + 1)) =
      .next ((s.setPc (s.cpu.pc + 1 + 1 + sext16 0xFE)).spend 12) := rfl
  rw [hjump, htarget]
  rfl

theorem State.step_of_cpuAction_execute {s u v : State} (h : s.cpuAction = .execute u)
    (hx : exec u.fetched.1 u.fetched.2 = .next v) : step s = .next (v.retire u.cpu.imeEnableAfter).advance := by
  unfold step
  rw [h]
  dsimp only
  rw [hx]

/-- The step at the end of a run: the outside requests land, and 12 T-cycles pass. -/
theorem State.Ended.step_eq {s : State} {done : Addr} (h : s.Ended done) (hd : s.cpu.imeEnableAfter = .none)
    (hb : s.cpu.haltBug = false)
    (hcode : ∀ a, a = done ∨ a = done + 1 → region a = .rom ∨ isWorkRam a = true) :
    step s = .next (s.acceptExt.spend 12).advance := by
  obtain ⟨hop, he, rfl, hl, hh, hs, hi⟩ := h
  have hread : ∀ a, a = s.cpu.pc ∨ a = s.cpu.pc + 1 → s.acceptExt.read a = s.read a := fun a ha =>
    read_congr_of_rom_or_workRam (hcode a ha) rfl rfl
  have hfetch := fetched_jr (s := s.acceptExt) hb ((hread _ (.inl rfl)).trans hop) ((hread _ (.inr rfl)).trans he)
  have hexec : exec s.acceptExt.fetched.1 s.acceptExt.fetched.2 = .next (s.acceptExt.spend 12) := by
    rw [hfetch]
    exact exec_jr_self s.acceptExt
  rw [step_of_cpuAction_execute (cpuAction_of_not_serviceable hl hs hh hi) hexec,
    retire_of_none (s := s.acceptExt.spend 12) hd]

/-- Settles O50: the step of the loop writes no register and no memory, so the loop and the run's end stand as before. -/
theorem endOfRunStays : Obligations.EndOfRunStays := by
  intro s t done h hd hb hcode hst
  obtain rfl := Host.Outcome.next.inj ((h.step_eq hd hb hcode).symm.trans hst)
  have hread : ∀ a, a = done ∨ a = done + 1 → (s.acceptExt.spend 12).advance.read a = s.read a := fun a ha =>
    read_congr_of_rom_or_workRam (hcode a ha) (by simp [advance_cart]) (by simp)
  obtain ⟨hop, he, hrest⟩ := h
  exact ⟨⟨(hread _ (.inl rfl)).trans hop, (hread _ (.inr rfl)).trans he, by simpa using hrest⟩, advance_cpu _,
    advance_mem _, by simp [advance_cart], advance_ie _, advance_cycles _⟩

/-! ### Reset (rules R420 to R424) -/

@[simp] theorem State.resetWith_cpu (c : Cartridge) (m : Memory) : (State.resetWith c m).cpu = .reset := rfl
@[simp] theorem State.resetWith_timer (c : Cartridge) (m : Memory) : (State.resetWith c m).timer = .reset := rfl
@[simp] theorem State.resetWith_ppu (c : Cartridge) (m : Memory) : (State.resetWith c m).ppu = .reset := rfl

/-- What an I/O register or IE reads at reset, whatever the cartridge and the contents of RAM are. -/
theorem State.read_resetWith {a : Addr} (h : region a = .io ∨ region a = .ie) (c : Cartridge) (m : Memory) :
    (State.resetWith c m).read a = State.reset.read a := by
  rcases h with h | h
  · rw [read_io h, read_io h]
    rfl
  · rw [read_ie h, read_ie h]
    rfl

/-- The blank cartridge has the smallest image and no RAM. -/
theorem Cartridge.ok_blank : Cartridge.blank.Ok := ⟨rfl, by decide, rfl, rfl, trivial⟩

/-- Settles O37: the control bits and PC are those of `Cpu.reset`. -/
theorem resetControlState : Obligations.ResetControlState :=
  ⟨rfl, fun _ _ => ⟨rfl, rfl, rfl, rfl, rfl, rfl, rfl⟩⟩

/-- Settles O38: neither the cartridge nor RAM plays a part, and what is left is closed. -/
theorem resetDefaults : Obligations.ResetDefaults := by
  intro cart mem
  simp (disch := decide) only [af, f, bc, de, hl, resetWith_cpu, resetWith_timer, resetWith_ppu, read_resetWith]
  decide

/-- Settles O39: the reset state lists no byte, and its cartridge is the blank one. -/
theorem invAtReset : Obligations.InvAtReset := .resetWith Cartridge.ok_blank rfl rfl

end Sys2Proof.Machine
